-- ==== Sys2Proof/Word.lean ====
section
/-!
DEFINITION. The words the block works on, and the bit ranges that name parts of them
(spec/00_scope.md R4, R6, R8; spec/41_bitfield_engine.md R120, R121).
-/

namespace Sys2Proof

/-- A `Word32`: an instruction word, an immediate bus, a value handed to the merge engine (R4, R8). -/
abbrev Word := BitVec 32

/-- One byte lane (R41). -/
abbrev Byte := BitVec 8

/-- A register index. It is a value only: the block has no register file, and index 0 is like
every other index (R30, R101). -/
abbrev Reg := BitVec 5

/-- R120: a pair of integers for the half-open interval `[start, stop)` of bit positions, bit 0 least
significant (R6). The pair need not be well formed; `BitRange.ok` is the check. Its ends
are integers of any sign (DESIGN CHOICE, assumption log 12). -/
structure BitRange where
  start : Int
  stop : Int
deriving DecidableEq, Repr

/-- R121: take the bits of `value` selected by `src` and place them at `dst`. -/
structure BitFieldSpec where
  dst : BitRange
  value : Word
  src : BitRange
deriving DecidableEq, Repr

end Sys2Proof
end

