-- ==== Sys2Proof/Config.lean ====
section
/-!
DEFINITION. The block's one open parameter (spec/00_scope.md R5): the shape of a row of `DISPATCH`
(spec/45_top_level_decode.md R190, R192). What a well-formed table is stands in
Machine/DispatchTable.lean, the informative candidate in Machine/Candidate.lean. The block leaves
no value free: every output is a function of the inputs and of this parameter (R20, R23).
-/

namespace Sys2Proof

/-- R61: the six instruction formats, and there are exactly six. -/
inductive Fmt where
  | R
  | I
  | S
  | B
  | U
  | J
deriving DecidableEq, Repr

/-- R192: the kinds of sub-field the source's decode errors name. -/
inductive SubKind where
  /-- the R-format arithmetic/logic discriminator -/
  | funct7
  /-- the shift-immediate arithmetic-versus-logical discriminator -/
  | shiftMode
  /-- the fence-mode discriminator -/
  | fenceMode
  /-- the 12-bit sub-code of system calls -/
  | funct12
deriving DecidableEq, Repr

/-- R190: the triple `(kind, r, value)` of a row. `value` is a `len(r)`-bit constant, and `len(r)` is at
most 12 (R191 WF1), so 12 bits hold it. -/
structure SubField where
  kind : SubKind
  range : BitRange
  value : BitVec 12
deriving DecidableEq, Repr

/-- R190: one row of `DISPATCH`. -/
structure Row where
  idx : BitVec 8
  fmt : Fmt
  opcode : BitVec 7
  funct3 : Option (BitVec 3)
  sub : Option SubField
deriving DecidableEq, Repr

end Sys2Proof
end

