-- ==== Sys2Proof/Machine/Bitfield.lean ====
section
/-!
DEFINITION. The one bitfield engine and the one sign-extension shifter (spec/41_bitfield_engine.md
R120 to R131, spec/42_sign_extension.md R140 to R142). Every encoder, decoder and table check of the
model uses these three functions and no second copy (spec/70_reset_and_hazards.md R242).
-/

namespace Sys2Proof

/-- R211: the named fault codes. Only `reservedOp` can be driven by a built block (R213); the others
are design-time findings about a constant table or width. -/
inductive FaultCode where
  /-- R62: a reserved `op` value -/
  | reservedOp
  /-- R123: a MERGE spec with `len(dst) != len(src)` -/
  | lengthMismatch
  /-- R124, R130: a range that is not `range_ok` -/
  | rangeBounds
  /-- R125: two MERGE specs write one bit -/
  | overlap
  /-- R141: a SEXT width outside 1..31 -/
  | sextWidth
deriving DecidableEq, Repr

/-- R120: `len(r) = r.end - r.start`. -/
def BitRange.len (r : BitRange) : Int := r.stop - r.start

/-- R120: `range_ok(r)`, that is `0 ≤ r.start < r.end ≤ 32`. -/
def BitRange.ok (r : BitRange) : Bool :=
  decide (0 ≤ r.start) && decide (r.start < r.stop) && decide (r.stop ≤ 32)

/-- R8: `mask(n)`, the n-bit all-ones value. -/
def mask (n : Nat) : Word := BitVec.ofNat 32 (2 ^ n - 1)

/-- R120: `rmask(r) = shl32(mask(len(r)), r.start)`. -/
def BitRange.mask (r : BitRange) : Word := Sys2Proof.mask r.len.toNat <<< r.start.toNat

/-- R122 step (4), R129: `lsr32(value, src.start) & mask(len(src))`. -/
def fieldOf (value : Word) (src : BitRange) : Word :=
  (value >>> src.start.toNat) &&& mask src.len.toNat

/-- R122: what one spec contributes to the word, `shl32(field, dst.start)`. -/
def BitFieldSpec.placed (sp : BitFieldSpec) : Word :=
  fieldOf sp.value sp.src <<< sp.dst.start.toNat

/-- R122: the loop over the specs, carrying the accumulator and the visited mask (the stack-local
scratch of R35). -/
def mergeFrom (acc visited : Word) : List BitFieldSpec → Except FaultCode Word
  | [] => .ok acc
  | sp :: rest =>
    if sp.dst.len ≠ sp.src.len then .error .lengthMismatch
    else if (sp.dst.ok && sp.src.ok) = false then .error .rangeBounds
    else if visited &&& sp.dst.mask ≠ 0 then .error .overlap
    else mergeFrom (acc ||| sp.placed) (visited ||| sp.dst.mask) rest

/-- R122: MERGE. Both scratch values start at 0 in every evaluation. -/
def merge (specs : List BitFieldSpec) : Except FaultCode Word := mergeFrom 0 0 specs

/-- R129: EXTRACT. -/
def extract (w : Word) (r : BitRange) : Except FaultCode Word :=
  if r.ok then .ok (fieldOf w r) else .error .rangeBounds

/-- R140: SEXT, by the shift pair. -/
def sext (k : Nat) (v : Word) : Except FaultCode Word :=
  if 1 ≤ k ∧ k ≤ 31 then .ok ((v <<< (32 - k)).sshiftRight (32 - k)) else .error .sextWidth

/-- Whether an instance's check passes (R127, R130, R141). -/
def passes (r : Except FaultCode Word) : Bool :=
  match r with
  | .ok _ => true
  | .error _ => false

end Sys2Proof
end

