-- ==== Sys2Proof/Machine/DispatchTable.lean ====
section
/-!
DEFINITION. The parameter `DISPATCH`: when a row matches a word, and when a table is well formed
(spec/45_top_level_decode.md R190, R191). A model takes only a well-formed table, so `Dispatch` carries
the check's outcome: no state holds any other table (DEDUCED, assumption log 2).

The four conditions are stated twice: `WF1` to `WF4` say them as R191 does, over every word, and
`dispatchWf` is a check that computes. That the two agree is one of this row's statements.
-/

namespace Sys2Proof

/-- R191, first condition: `row.opcode = w[6:0]`. -/
def Row.opcodeMatches (row : Row) (w : Word) : Bool := row.opcode == w.extractLsb' 0 7

/-- R191, second condition: `row.funct3 = none` or `row.funct3 = w[14:12]`. -/
def Row.funct3Matches (row : Row) (w : Word) : Bool :=
  match row.funct3 with
  | none => true
  | some f => f == w.extractLsb' 12 3

/-- R191: `EXTRACT(w, sub.r) = sub.value`. -/
def SubField.holds (sub : SubField) (w : Word) : Bool :=
  match extract w sub.range with
  | .ok v => v == sub.value.setWidth 32
  | .error _ => false

/-- R191, third condition: `row.sub = none` or its sub-field has its value in the word. -/
def Row.subMatches (row : Row) (w : Word) : Bool :=
  match row.sub with
  | none => true
  | some sub => sub.holds w

/-- R191: a row matches a word when all three conditions hold. -/
def Row.matchesWord (row : Row) (w : Word) : Bool :=
  row.opcodeMatches w && row.funct3Matches w && row.subMatches w

/-! ### The conditions as the stages of DECODE ask them -/

/-- R195: `row.opcode = opc`, `opc` being the extracted opcode. -/
def Row.takesOpcode (row : Row) (opc : Word) : Bool := row.opcode.setWidth 32 == opc

/-- R195: `row.funct3 = none or row.funct3 = f3`, `f3` being the extracted funct3. -/
def Row.takesFunct3 (row : Row) (f3 : Word) : Bool :=
  match row.funct3 with
  | none => true
  | some f => f.setWidth 32 == f3

/-- R195: `row.sub = none or row.sub.value = v`, `v` being the extracted sub-field. -/
def Row.takesSub (row : Row) (v : Word) : Bool :=
  match row.sub with
  | none => true
  | some sub => sub.value.setWidth 32 == v

/-! ### Well-formedness as R191 says it -/

/-- R191 (WF1), with R190's shape of a sub-field's constant: the range is `range_ok` and at most 12 bits
long, and the value is a `len(r)`-bit constant. -/
def WF1 (rows : List Row) : Prop :=
  ∀ row ∈ rows, ∀ sub, row.sub = some sub →
    sub.range.ok = true ∧ sub.range.len ≤ 12 ∧ sub.value.toNat < 2 ^ sub.range.len.toNat

/-- R191 (WF2): for every word at most one row matches. Rows are told apart by their place. -/
def WF2 (rows : List Row) : Prop :=
  ∀ w : Word, rows.Pairwise fun a b => ¬ (a.matchesWord w = true ∧ b.matchesWord w = true)

/-- R191 (WF3): for every word, all rows that pass the first two conditions and have a `sub` have the
same `sub.kind` and the same `sub.r`. -/
def WF3 (rows : List Row) : Prop :=
  ∀ w : Word, ∀ a ∈ rows, ∀ b ∈ rows, ∀ sa sb, a.sub = some sa → b.sub = some sb →
    a.opcodeMatches w = true → a.funct3Matches w = true →
    b.opcodeMatches w = true → b.funct3Matches w = true → sa.kind = sb.kind ∧ sa.range = sb.range

/-- R191 (WF4): the indices are 0 to n-1, row i's being i (R190). -/
def WF4 (rows : List Row) : Prop :=
  ∀ i, ∀ h : i < rows.length, (rows[i]'h).idx.toNat = i

/-- R190: 1 ≤ n ≤ 256. -/
def RowCount (rows : List Row) : Prop := 1 ≤ rows.length ∧ rows.length ≤ 256

/-! ### Well-formedness as a check -/

/-- The check of WF1 on one row. -/
def Row.shapeOk (row : Row) : Bool :=
  match row.sub with
  | none => true
  | some sub =>
    sub.range.ok && decide (sub.range.len ≤ 12)
      && decide (sub.value.toNat < 2 ^ sub.range.len.toNat)

/-- The bits a row's funct3 asks for, in place. -/
def funct3Bits : Option (BitVec 3) → Word
  | none => 0#32
  | some f => f.setWidth 32 <<< 12

/-- The bits a row's sub-field asks for, in place. -/
def subBits : Option SubField → Word
  | none => 0#32
  | some sub => sub.value.setWidth 32 <<< sub.range.start.toNat

/-- The bits the row asks for, every other bit 0. A word matches the row only if it has these bits. -/
def Row.pattern (row : Row) : Word :=
  row.opcode.setWidth 32 ||| funct3Bits row.funct3 ||| subBits row.sub

/-- Two rows match a common word exactly when both match the union of the bits they ask for. -/
def Row.clashes (a b : Row) : Bool :=
  a.opcode == b.opcode
    && a.matchesWord (a.pattern ||| b.pattern) && b.matchesWord (a.pattern ||| b.pattern)

/-- Some word passes both rows' opcode and funct3 conditions. -/
def Row.sameStage (a b : Row) : Bool :=
  a.opcode == b.opcode &&
    match a.funct3, b.funct3 with
    | some f, some g => f == g
    | _, _ => true

/-- The check of WF3 on one pair. -/
def Row.subsAgree (a b : Row) : Bool :=
  match a.sub, b.sub with
  | some sa, some sb => !a.sameStage b || (sa.kind == sb.kind && sa.range == sb.range)
  | _, _ => true

/-- A check on every pair of rows, the earlier row first. -/
def allPairs (f : Row → Row → Bool) : List Row → Bool
  | [] => true
  | row :: rest => rest.all (f row) && allPairs f rest

/-- The check of WF4, the next index being `n`. -/
def indicesFrom (n : Nat) : List Row → Bool
  | [] => true
  | row :: rest => row.idx.toNat == n && indicesFrom (n + 1) rest

/-- The check of R190 and R191. -/
def dispatchWf (rows : List Row) : Bool :=
  decide (1 ≤ rows.length) && decide (rows.length ≤ 256) && rows.all Row.shapeOk
    && allPairs (fun a b => !a.clashes b && a.subsAgree b) rows && indicesFrom 0 rows

/-- A well-formed `DISPATCH`. -/
structure Dispatch where
  rows : List Row
  wellFormed : dispatchWf rows = true
deriving DecidableEq, Repr

end Sys2Proof
end

