-- ==== Sys2Proof/Machine/Candidate.lean ====
section
/-!
DEFINITION. The informative candidate `DISPATCH` for RV32IM_Zicsr (spec/30_encoding.md section 6, which marks
all of it as general knowledge, not in the source). It is not part of the block's definition (R5,
spec/92_eei_decisions.md D12): the block works with any well-formed table. The model uses it for the
reset state and for statements that name it (PRESUMED, assumption log 1).
-/

namespace Sys2Proof

/-- `word[31:25]`, which Funct7 and ShiftMode read in the candidate (R192). -/
def highSeven : BitRange := ⟨25, 32⟩
/-- `word[31:28]`, which FenceMode reads in the candidate (R192). -/
def highFour : BitRange := ⟨28, 32⟩
/-- `word[31:20]`, which Funct12 reads in the candidate (R192). -/
def highTwelve : BitRange := ⟨20, 32⟩

/-- Rows 0 to 9: upper immediates, jumps and branches. -/
def candidateControl : List Row :=
  [ ⟨0#8, .U, 0b0110111#7, none, none⟩ -- lui
  , ⟨1#8, .U, 0b0010111#7, none, none⟩ -- auipc
  , ⟨2#8, .J, 0b1101111#7, none, none⟩ -- jal
  , ⟨3#8, .I, 0b1100111#7, some 0b000#3, none⟩ -- jalr
  , ⟨4#8, .B, 0b1100011#7, some 0b000#3, none⟩ -- beq
  , ⟨5#8, .B, 0b1100011#7, some 0b001#3, none⟩ -- bne
  , ⟨6#8, .B, 0b1100011#7, some 0b100#3, none⟩ -- blt
  , ⟨7#8, .B, 0b1100011#7, some 0b101#3, none⟩ -- bge
  , ⟨8#8, .B, 0b1100011#7, some 0b110#3, none⟩ -- bltu
  , ⟨9#8, .B, 0b1100011#7, some 0b111#3, none⟩ -- bgeu
  ]

/-- Rows 10 to 17: loads and stores. -/
def candidateMemory : List Row :=
  [ ⟨10#8, .I, 0b0000011#7, some 0b000#3, none⟩ -- lb
  , ⟨11#8, .I, 0b0000011#7, some 0b001#3, none⟩ -- lh
  , ⟨12#8, .I, 0b0000011#7, some 0b010#3, none⟩ -- lw
  , ⟨13#8, .I, 0b0000011#7, some 0b100#3, none⟩ -- lbu
  , ⟨14#8, .I, 0b0000011#7, some 0b101#3, none⟩ -- lhu
  , ⟨15#8, .S, 0b0100011#7, some 0b000#3, none⟩ -- sb
  , ⟨16#8, .S, 0b0100011#7, some 0b001#3, none⟩ -- sh
  , ⟨17#8, .S, 0b0100011#7, some 0b010#3, none⟩ -- sw
  ]

/-- Rows 18 to 26: immediate arithmetic. -/
def candidateOpImm : List Row :=
  [ ⟨18#8, .I, 0b0010011#7, some 0b000#3, none⟩ -- addi
  , ⟨19#8, .I, 0b0010011#7, some 0b010#3, none⟩ -- slti
  , ⟨20#8, .I, 0b0010011#7, some 0b011#3, none⟩ -- sltiu
  , ⟨21#8, .I, 0b0010011#7, some 0b100#3, none⟩ -- xori
  , ⟨22#8, .I, 0b0010011#7, some 0b110#3, none⟩ -- ori
  , ⟨23#8, .I, 0b0010011#7, some 0b111#3, none⟩ -- andi
  , ⟨24#8, .R, 0b0010011#7, some 0b001#3, some ⟨.shiftMode, highSeven, 0b0000000#12⟩⟩ -- slli
  , ⟨25#8, .R, 0b0010011#7, some 0b101#3, some ⟨.shiftMode, highSeven, 0b0000000#12⟩⟩ -- srli
  , ⟨26#8, .R, 0b0010011#7, some 0b101#3, some ⟨.shiftMode, highSeven, 0b0100000#12⟩⟩ -- srai
  ]

/-- Rows 27 to 36: register arithmetic. -/
def candidateOpReg : List Row :=
  [ ⟨27#8, .R, 0b0110011#7, some 0b000#3, some ⟨.funct7, highSeven, 0b0000000#12⟩⟩ -- add
  , ⟨28#8, .R, 0b0110011#7, some 0b000#3, some ⟨.funct7, highSeven, 0b0100000#12⟩⟩ -- sub
  , ⟨29#8, .R, 0b0110011#7, some 0b001#3, some ⟨.funct7, highSeven, 0b0000000#12⟩⟩ -- sll
  , ⟨30#8, .R, 0b0110011#7, some 0b010#3, some ⟨.funct7, highSeven, 0b0000000#12⟩⟩ -- slt
  , ⟨31#8, .R, 0b0110011#7, some 0b011#3, some ⟨.funct7, highSeven, 0b0000000#12⟩⟩ -- sltu
  , ⟨32#8, .R, 0b0110011#7, some 0b100#3, some ⟨.funct7, highSeven, 0b0000000#12⟩⟩ -- xor
  , ⟨33#8, .R, 0b0110011#7, some 0b101#3, some ⟨.funct7, highSeven, 0b0000000#12⟩⟩ -- srl
  , ⟨34#8, .R, 0b0110011#7, some 0b101#3, some ⟨.funct7, highSeven, 0b0100000#12⟩⟩ -- sra
  , ⟨35#8, .R, 0b0110011#7, some 0b110#3, some ⟨.funct7, highSeven, 0b0000000#12⟩⟩ -- or
  , ⟨36#8, .R, 0b0110011#7, some 0b111#3, some ⟨.funct7, highSeven, 0b0000000#12⟩⟩ -- and
  ]

/-- Rows 37 to 44: the M extension. -/
def candidateMulDiv : List Row :=
  [ ⟨37#8, .R, 0b0110011#7, some 0b000#3, some ⟨.funct7, highSeven, 0b0000001#12⟩⟩ -- mul
  , ⟨38#8, .R, 0b0110011#7, some 0b001#3, some ⟨.funct7, highSeven, 0b0000001#12⟩⟩ -- mulh
  , ⟨39#8, .R, 0b0110011#7, some 0b010#3, some ⟨.funct7, highSeven, 0b0000001#12⟩⟩ -- mulhsu
  , ⟨40#8, .R, 0b0110011#7, some 0b011#3, some ⟨.funct7, highSeven, 0b0000001#12⟩⟩ -- mulhu
  , ⟨41#8, .R, 0b0110011#7, some 0b100#3, some ⟨.funct7, highSeven, 0b0000001#12⟩⟩ -- div
  , ⟨42#8, .R, 0b0110011#7, some 0b101#3, some ⟨.funct7, highSeven, 0b0000001#12⟩⟩ -- divu
  , ⟨43#8, .R, 0b0110011#7, some 0b110#3, some ⟨.funct7, highSeven, 0b0000001#12⟩⟩ -- rem
  , ⟨44#8, .R, 0b0110011#7, some 0b111#3, some ⟨.funct7, highSeven, 0b0000001#12⟩⟩ -- remu
  ]

/-- Rows 45 to 54: fences, system calls and CSR words. -/
def candidateSystem : List Row :=
  [ ⟨45#8, .I, 0b0001111#7, some 0b000#3, some ⟨.fenceMode, highFour, 0b0000#12⟩⟩ -- fence
  , ⟨46#8, .I, 0b0001111#7, some 0b000#3, some ⟨.fenceMode, highFour, 0b1000#12⟩⟩ -- fence.tso
  , ⟨47#8, .I, 0b1110011#7, some 0b000#3, some ⟨.funct12, highTwelve, 0b000000000000#12⟩⟩ -- ecall
  , ⟨48#8, .I, 0b1110011#7, some 0b000#3, some ⟨.funct12, highTwelve, 0b000000000001#12⟩⟩ -- ebreak
  , ⟨49#8, .I, 0b1110011#7, some 0b001#3, none⟩ -- csrrw
  , ⟨50#8, .I, 0b1110011#7, some 0b010#3, none⟩ -- csrrs
  , ⟨51#8, .I, 0b1110011#7, some 0b011#3, none⟩ -- csrrc
  , ⟨52#8, .I, 0b1110011#7, some 0b101#3, none⟩ -- csrrwi
  , ⟨53#8, .I, 0b1110011#7, some 0b110#3, none⟩ -- csrrsi
  , ⟨54#8, .I, 0b1110011#7, some 0b111#3, none⟩ -- csrrci
  ]

/-- The 55 rows of the candidate. -/
def candidateRows : List Row :=
  candidateControl ++ candidateMemory ++ candidateOpImm ++ candidateOpReg ++ candidateMulDiv
    ++ candidateSystem

/-- The candidate passes the check of R191. -/
theorem candidateRows_wellFormed : dispatchWf candidateRows = true := by decide +kernel

/-- The candidate `DISPATCH`. -/
def candidateDispatch : Dispatch := ⟨candidateRows, candidateRows_wellFormed⟩

end Sys2Proof
end

