-- ==== Sys2Proof/Machine/State.lean ====
section
/-!
DEFINITION. State as plain data, the ways an evaluation can stop, and the state after reset.

The block is combinational: it stores nothing from one evaluation to the next (spec/10_state.md R20).
What State holds is the boundary of one evaluation: the input signals the caller presents (R21), the
output signals the evaluation drives (R22), the parameter the block was built with (R5), and the
result of the sub-unit instance last evaluated (R63). Holding outputs until the next evaluation is the
model's way to show them, not storage of the block (DESIGN CHOICE, assumption log 5). There is no register file, program counter,
flag, control register or memory to hold (R30 to R35, R40).
-/

namespace Sys2Proof.Machine

/-- R21: the input signals. -/
structure Inputs where
  op : BitVec 4
  word : Word
  opcode : BitVec 7
  rd : Reg
  rs1 : Reg
  rs2 : Reg
  funct3 : BitVec 3
  funct7 : BitVec 7
  imm : Word
  bytesSel : BitVec 1
  byte0 : Byte
  byte1 : Byte
  byte2 : Byte
  byte3 : Byte
deriving DecidableEq, Repr

/-- R22: the output signals. -/
structure Outputs where
  word : Word
  opcode : BitVec 7
  rd : Reg
  rs1 : Reg
  rs2 : Reg
  funct3 : BitVec 3
  funct7 : BitVec 7
  imm : Word
  fmt : BitVec 3
  mnem : BitVec 8
  derrKind : BitVec 3
  derrBits : BitVec 12
  fault : BitVec 3
  byte0 : Byte
  byte1 : Byte
  byte2 : Byte
  byte3 : Byte
deriving DecidableEq, Repr

/-- Every input signal 0. -/
def Inputs.zero : Inputs := ⟨0, 0, 0, 0, 0, 0, 0, 0, 0, 0, 0, 0, 0, 0⟩

/-- Every output signal 0: what an output no operation drives is (R23). -/
def Outputs.zero : Outputs := ⟨0, 0, 0, 0, 0, 0, 0, 0, 0, 0, 0, 0, 0, 0, 0, 0, 0⟩

/-- Why an evaluation is a fault (R211). -/
inductive Fault where
  /-- Raised by the three reserved `op` values, on every path (R62): `out_fault = 1`, every other output 0.
  Safe: the spec says a model treats it as a fault (R212). -/
  | reservedOp
  /-- Raised by a MERGE or EXTRACT instance whose constant table fails its build-time check (R123 to
  R126, R130). One outcome for every such defect: a model must not rely on which code a table
  with several defects reports (R126; DEDUCED, assumption log 6). No built block raises it (R213). Safe. -/
  | wrongTable
  /-- Raised by a SEXT instance whose width is not in 1..31 (R141). No built block raises it (R213).
  Safe. -/
  | sextWidth
deriving DecidableEq, Repr

/-- Why there is no evaluation at all. -/
inductive Refusal where
  /-- Raised by `exec` for an instruction that has no meaning in the model. No instruction is left
  so. Safe. -/
  | notModelled (mnemonic : String)
  /-- Raised by `build` for a `DISPATCH` that is not well formed (R191: a model refuses to build with any
  other). Safe. -/
  | illFormedDispatch
  /-- Raised by `build` if a MERGE, EXTRACT or SEXT instance of the block failed its check (R241). None
  does. Safe. -/
  | wrongInstance
deriving DecidableEq, Repr

/-- The machine. -/
structure State where
  /-- the block's one open parameter (R5); no evaluation changes it -/
  dispatch : Dispatch
  /-- the input signals presented; no evaluation changes them, the caller does -/
  inp : Inputs
  /-- the output signals of the last evaluation (R20) -/
  out : Outputs
  /-- the model's own field: the result of the sub-unit instance last evaluated on its own (R63); the
  spec names no signal for it (DESIGN CHOICE, assumption log 4) -/
  subOut : Word
deriving DecidableEq, Repr

/-- A block built with this `DISPATCH`, its inputs at 0 (DESIGN CHOICE, assumption log 3). Its outputs are those of the
operation that `op = 0` selects, ENC_R, on inputs 0: all 0 (R36, R240). -/
def State.powerUp (d : Dispatch) : State := ⟨d, Inputs.zero, Outputs.zero, 0⟩

/-- The machine right after power-up. The block has no reset and no reset value (R36, R240); the
values the model names are DESIGN CHOICE (assumption log 1, 3 and 4). -/
def State.reset : State := State.powerUp candidateDispatch

end Sys2Proof.Machine
end

