-- ==== Sys2Proof/Machine/Flags.lean ====
section
/-!
DEFINITION. The error outputs. The block has no status flag and no condition code (spec/10_state.md R32);
what it reports of an evaluation are a decode error (spec/45_top_level_decode.md R196, R197) and a fault
code (spec/60_exceptions.md R211, R212), each a function of the current inputs and never sticky.
-/

namespace Sys2Proof

/-- R61: the 3-bit format codes. -/
def Fmt.code : Fmt → BitVec 3
  | .R => 0#3
  | .I => 1#3
  | .S => 2#3
  | .B => 3#3
  | .U => 4#3
  | .J => 5#3

/-- R211: the code of a fault. -/
def FaultCode.bits : FaultCode → BitVec 3
  | .reservedOp => 1#3
  | .lengthMismatch => 2#3
  | .rangeBounds => 3#3
  | .overlap => 4#3
  | .sextWidth => 5#3

namespace Machine

/-- R197: the field a decode error names. -/
inductive DerrKind where
  | opcode
  | funct3
  | sub (kind : SubKind)
deriving DecidableEq, Repr

/-- R197: the kind codes. 7 is not used. -/
def DerrKind.code : DerrKind → BitVec 3
  | .opcode => 1#3
  | .funct3 => 2#3
  | .sub .funct7 => 3#3
  | .sub .fenceMode => 4#3
  | .sub .shiftMode => 5#3
  | .sub .funct12 => 6#3

/-- R196: a decode error: the invalid field and its literal bits. -/
structure DecodeError where
  kind : DerrKind
  bits : BitVec 12
deriving DecidableEq, Repr

/-- R197: the outputs of a decode error, every other output 0. -/
def DecodeError.outputs (e : DecodeError) : Outputs :=
  { Outputs.zero with derrKind := e.kind.code, derrBits := e.bits }

/-- R62, R212: the outputs of a reserved `op`. -/
def reservedOutputs : Outputs := { Outputs.zero with fault := FaultCode.reservedOp.bits }

end Machine
end Sys2Proof
end

