-- ==== Sys2Proof/Syntax.lean ====
section
/-!
DEFINITION. The syntax: one constructor per row of spec/opcode_table.json.

Three groups. The sixteen values of the `op` input (spec/30_encoding.md R60) carry no operand: the
operands are on the input signals. The three sub-units (R63) carry what one instance of them is built
from and given. The fifty-five mnemonics of the informative candidate `DISPATCH` (30_encoding.md section 6)
carry the fields of the word that the top-level DECODE recognises; they are words the block
recognises, never instructions it executes (R3, R31).
-/

namespace Sys2Proof

/-- One constructor per row of spec/opcode_table.json, in the table's order. -/
inductive Instr where
  -- encode operations, `op[3] = 0`
  | encR
  | encI
  | encS
  | encB
  | encU
  | encJ
  -- decode operations, `op[3] = 1`
  | decR
  | decI
  | decS
  | decB
  | decU
  | decJ
  | decode
  -- reserved op values
  | reserved0110
  | reserved0111
  | reserved1111
  -- sub-units
  | merge (specs : List BitFieldSpec)
  | extract (w : Word) (r : BitRange)
  | sext (k : Nat) (v : Word)
  -- candidate mnemonics, format U: `imm` is the 32-bit immediate, low 12 bits 0 (R108)
  | lui (rd : Reg) (imm : Word)
  | auipc (rd : Reg) (imm : Word)
  -- format J: `imm` is the even 21-bit displacement (R107)
  | jal (rd : Reg) (imm : BitVec 21)
  | jalr (rd rs1 : Reg) (imm : BitVec 12)
  -- format B: `imm` is the even 13-bit displacement (R105)
  | beq (rs1 rs2 : Reg) (imm : BitVec 13)
  | bne (rs1 rs2 : Reg) (imm : BitVec 13)
  | blt (rs1 rs2 : Reg) (imm : BitVec 13)
  | bge (rs1 rs2 : Reg) (imm : BitVec 13)
  | bltu (rs1 rs2 : Reg) (imm : BitVec 13)
  | bgeu (rs1 rs2 : Reg) (imm : BitVec 13)
  -- format I: `imm` is the 12-bit immediate (R103)
  | lb (rd rs1 : Reg) (imm : BitVec 12)
  | lh (rd rs1 : Reg) (imm : BitVec 12)
  | lw (rd rs1 : Reg) (imm : BitVec 12)
  | lbu (rd rs1 : Reg) (imm : BitVec 12)
  | lhu (rd rs1 : Reg) (imm : BitVec 12)
  -- format S
  | sb (rs1 rs2 : Reg) (imm : BitVec 12)
  | sh (rs1 rs2 : Reg) (imm : BitVec 12)
  | sw (rs1 rs2 : Reg) (imm : BitVec 12)
  -- format I
  | addi (rd rs1 : Reg) (imm : BitVec 12)
  | slti (rd rs1 : Reg) (imm : BitVec 12)
  | sltiu (rd rs1 : Reg) (imm : BitVec 12)
  | xori (rd rs1 : Reg) (imm : BitVec 12)
  | ori (rd rs1 : Reg) (imm : BitVec 12)
  | andi (rd rs1 : Reg) (imm : BitVec 12)
  -- format R, the shift amount in the rs2 position (R75)
  | slli (rd rs1 : Reg) (shamt : BitVec 5)
  | srli (rd rs1 : Reg) (shamt : BitVec 5)
  | srai (rd rs1 : Reg) (shamt : BitVec 5)
  -- format R
  | add (rd rs1 rs2 : Reg)
  | sub (rd rs1 rs2 : Reg)
  | sll (rd rs1 rs2 : Reg)
  | slt (rd rs1 rs2 : Reg)
  | sltu (rd rs1 rs2 : Reg)
  | xor (rd rs1 rs2 : Reg)
  | srl (rd rs1 rs2 : Reg)
  | sra (rd rs1 rs2 : Reg)
  | or (rd rs1 rs2 : Reg)
  | and (rd rs1 rs2 : Reg)
  | mul (rd rs1 rs2 : Reg)
  | mulh (rd rs1 rs2 : Reg)
  | mulhsu (rd rs1 rs2 : Reg)
  | mulhu (rd rs1 rs2 : Reg)
  | div (rd rs1 rs2 : Reg)
  | divu (rd rs1 rs2 : Reg)
  | rem (rd rs1 rs2 : Reg)
  | remu (rd rs1 rs2 : Reg)
  -- format I, the fence mode in `word[31:28]`; the candidate checks neither rd nor rs1
  | fence (rd rs1 : Reg) (pred succ : BitVec 4)
  | fenceTso (rd rs1 : Reg) (pred succ : BitVec 4)
  -- format I, the sub-code in `word[31:20]`; the candidate checks neither rd nor rs1
  | ecall (rd rs1 : Reg)
  | ebreak (rd rs1 : Reg)
  -- format I, the CSR number in the immediate field (R75)
  | csrrw (rd rs1 : Reg) (csr : BitVec 12)
  | csrrs (rd rs1 : Reg) (csr : BitVec 12)
  | csrrc (rd rs1 : Reg) (csr : BitVec 12)
  | csrrwi (rd : Reg) (zimm : BitVec 5) (csr : BitVec 12)
  | csrrsi (rd : Reg) (zimm : BitVec 5) (csr : BitVec 12)
  | csrrci (rd : Reg) (zimm : BitVec 5) (csr : BitVec 12)
deriving DecidableEq, Repr

end Sys2Proof
end

