-- ==== Sys2Proof/WellFormed.lean ====
section
/-!
DEFINITION. When an instruction term is one the spec admits: a displacement is even
(spec/40_operand_domains.md R105, R107), a U immediate has its low 12 bits 0 (R108), and a sub-unit
instance passes its build-time check (spec/41_bitfield_engine.md R127, R130; 42_sign_extension.md R141).
Every other operand is legal at every value of its width (R101 to R104).
-/

namespace Sys2Proof

/-- A B or J displacement is even (R105, R107). -/
def evenImm {n : Nat} (imm : BitVec n) : Bool := !imm.getLsbD 0

/-- A U immediate has its low 12 bits 0 (R108). -/
def upperImm (imm : Word) : Bool := imm.extractLsb' 0 12 == 0#12

/-- The well-formed instructions. -/
def Instr.wellFormed : Instr → Bool
  | .encR | .encI | .encS | .encB | .encU | .encJ => true
  | .decR | .decI | .decS | .decB | .decU | .decJ | .decode => true
  | .reserved0110 | .reserved0111 | .reserved1111 => true
  | .merge specs => passes (Sys2Proof.merge specs)
  | .extract w r => passes (Sys2Proof.extract w r)
  | .sext k v => passes (Sys2Proof.sext k v)
  | .lui _ imm | .auipc _ imm => upperImm imm
  | .jal _ imm => evenImm imm
  | .jalr _ _ _ => true
  | .beq _ _ imm | .bne _ _ imm | .blt _ _ imm => evenImm imm
  | .bge _ _ imm | .bltu _ _ imm | .bgeu _ _ imm => evenImm imm
  | .lb _ _ _ | .lh _ _ _ | .lw _ _ _ | .lbu _ _ _ | .lhu _ _ _ => true
  | .sb _ _ _ | .sh _ _ _ | .sw _ _ _ => true
  | .addi _ _ _ | .slti _ _ _ | .sltiu _ _ _ | .xori _ _ _ | .ori _ _ _ | .andi _ _ _ => true
  | .slli _ _ _ | .srli _ _ _ | .srai _ _ _ => true
  | .add _ _ _ | .sub _ _ _ | .sll _ _ _ | .slt _ _ _ | .sltu _ _ _ | .xor _ _ _ => true
  | .srl _ _ _ | .sra _ _ _ | .or _ _ _ | .and _ _ _ => true
  | .mul _ _ _ | .mulh _ _ _ | .mulhsu _ _ _ | .mulhu _ _ _ => true
  | .div _ _ _ | .divu _ _ _ | .rem _ _ _ | .remu _ _ _ => true
  | .fence _ _ _ _ | .fenceTso _ _ _ _ => true
  | .ecall _ _ | .ebreak _ _ => true
  | .csrrw _ _ _ | .csrrs _ _ _ | .csrrc _ _ _ => true
  | .csrrwi _ _ _ | .csrrsi _ _ _ | .csrrci _ _ _ => true

end Sys2Proof
end

