-- ==== Sys2Proof/Decode.lean ====
section
/-!
DEFINITION. The decoder and, after it, the encoder.

Two encodings (spec/30_encoding.md). The block's own instructions are the values of its 4-bit `op` input
(R60); here such a value is one byte whose upper four bits are 0. The candidate mnemonics are 32-bit
instruction words (R64), stored as four bytes, least significant first (R41). The decoder is written
from the field positions of R65 to R73 and the constants of 30_encoding.md section 6; it does not use the
block's own MERGE tables or its `DISPATCH`, so that statements comparing them say something. The
sub-units have no encoding (R63). The positions of rd, rs1, rs2, funct3 and funct7 are PRESUMED by the spec
itself (R66; assumption log 9), and so are the fence and CSR fields (assumption log 10).
-/

namespace Sys2Proof

/-- Why bytes are no instruction, by name. -/
inductive DecodeReject where
  /-- neither one byte (an `op` value) nor four (an instruction word) -/
  | length
  /-- an `op` byte with a bit above bit 3 set -/
  | opSelect
  /-- `word[6:0]` belongs to no candidate mnemonic -/
  | opcode
  /-- `word[14:12]` belongs to no candidate mnemonic of the opcode -/
  | funct3
  /-- `word[31:25]` belongs to no candidate mnemonic of the opcode and funct3 -/
  | funct7
  /-- `word[31:25]` of a shift-immediate is no shift mode -/
  | shiftMode
  /-- `word[31:28]` is no candidate fence mode -/
  | fenceMode
  /-- `word[31:20]` is no candidate system-call code -/
  | funct12
deriving DecidableEq, Repr

/-- R60: the `op` assignment. -/
def decodeOp (op : BitVec 4) : Instr :=
  match op.toNat with
  | 0b0000 => .encR
  | 0b0001 => .encI
  | 0b0010 => .encS
  | 0b0011 => .encB
  | 0b0100 => .encU
  | 0b0101 => .encJ
  | 0b0110 => .reserved0110
  | 0b0111 => .reserved0111
  | 0b1000 => .decR
  | 0b1001 => .decI
  | 0b1010 => .decS
  | 0b1011 => .decB
  | 0b1100 => .decU
  | 0b1101 => .decJ
  | 0b1110 => .decode
  | _ => .reserved1111

/-- R65: the opcode, `word[6:0]`. -/
def wordOpcode (w : Word) : BitVec 7 := w.extractLsb' 0 7
/-- R66: rd, `word[11:7]`. -/
def wordRd (w : Word) : Reg := w.extractLsb' 7 5
/-- R66: funct3, `word[14:12]`. -/
def wordFunct3 (w : Word) : BitVec 3 := w.extractLsb' 12 3
/-- R66: rs1, `word[19:15]`. -/
def wordRs1 (w : Word) : Reg := w.extractLsb' 15 5
/-- R66: rs2 or the shift amount, `word[24:20]`. -/
def wordRs2 (w : Word) : Reg := w.extractLsb' 20 5
/-- R66: funct7, `word[31:25]`. -/
def wordFunct7 (w : Word) : BitVec 7 := w.extractLsb' 25 7
/-- R73, row I: `word[31:20]`. -/
def wordImmI (w : Word) : BitVec 12 := w.extractLsb' 20 12
/-- R73, row S: the slices `word[31:25]`, `word[11:7]`. -/
def wordImmS (w : Word) : BitVec 12 := w.extractLsb' 25 7 ++ w.extractLsb' 7 5
/-- R73, row B: the slices `word[31]`, `word[7]`, `word[30:25]`, `word[11:8]` and a 0. -/
def wordImmB (w : Word) : BitVec 13 :=
  w.extractLsb' 31 1 ++ w.extractLsb' 7 1 ++ w.extractLsb' 25 6 ++ w.extractLsb' 8 4 ++ 0#1
/-- R73, row U: `word[31:12]` over twelve zeros. -/
def wordImmU (w : Word) : Word := w.extractLsb' 12 20 ++ 0#12
/-- R73, row J: the slices `word[31]`, `word[19:12]`, `word[20]`, `word[30:21]` and a 0. -/
def wordImmJ (w : Word) : BitVec 21 :=
  w.extractLsb' 31 1 ++ w.extractLsb' 12 8 ++ w.extractLsb' 20 1 ++ w.extractLsb' 21 10 ++ 0#1

/-- The branches (opcode 1100011). -/
def decodeBranch (w : Word) : Except DecodeReject Instr :=
  match (wordFunct3 w).toNat with
  | 0b000 => .ok (.beq (wordRs1 w) (wordRs2 w) (wordImmB w))
  | 0b001 => .ok (.bne (wordRs1 w) (wordRs2 w) (wordImmB w))
  | 0b100 => .ok (.blt (wordRs1 w) (wordRs2 w) (wordImmB w))
  | 0b101 => .ok (.bge (wordRs1 w) (wordRs2 w) (wordImmB w))
  | 0b110 => .ok (.bltu (wordRs1 w) (wordRs2 w) (wordImmB w))
  | 0b111 => .ok (.bgeu (wordRs1 w) (wordRs2 w) (wordImmB w))
  | _ => .error .funct3

/-- The loads (opcode 0000011). -/
def decodeLoad (w : Word) : Except DecodeReject Instr :=
  match (wordFunct3 w).toNat with
  | 0b000 => .ok (.lb (wordRd w) (wordRs1 w) (wordImmI w))
  | 0b001 => .ok (.lh (wordRd w) (wordRs1 w) (wordImmI w))
  | 0b010 => .ok (.lw (wordRd w) (wordRs1 w) (wordImmI w))
  | 0b100 => .ok (.lbu (wordRd w) (wordRs1 w) (wordImmI w))
  | 0b101 => .ok (.lhu (wordRd w) (wordRs1 w) (wordImmI w))
  | _ => .error .funct3

/-- The stores (opcode 0100011). -/
def decodeStore (w : Word) : Except DecodeReject Instr :=
  match (wordFunct3 w).toNat with
  | 0b000 => .ok (.sb (wordRs1 w) (wordRs2 w) (wordImmS w))
  | 0b001 => .ok (.sh (wordRs1 w) (wordRs2 w) (wordImmS w))
  | 0b010 => .ok (.sw (wordRs1 w) (wordRs2 w) (wordImmS w))
  | _ => .error .funct3

/-- The immediate arithmetic (opcode 0010011). -/
def decodeOpImm (w : Word) : Except DecodeReject Instr :=
  match (wordFunct3 w).toNat with
  | 0b000 => .ok (.addi (wordRd w) (wordRs1 w) (wordImmI w))
  | 0b001 =>
    match (wordFunct7 w).toNat with
    | 0b0000000 => .ok (.slli (wordRd w) (wordRs1 w) (wordRs2 w))
    | _ => .error .shiftMode
  | 0b010 => .ok (.slti (wordRd w) (wordRs1 w) (wordImmI w))
  | 0b011 => .ok (.sltiu (wordRd w) (wordRs1 w) (wordImmI w))
  | 0b100 => .ok (.xori (wordRd w) (wordRs1 w) (wordImmI w))
  | 0b101 =>
    match (wordFunct7 w).toNat with
    | 0b0000000 => .ok (.srli (wordRd w) (wordRs1 w) (wordRs2 w))
    | 0b0100000 => .ok (.srai (wordRd w) (wordRs1 w) (wordRs2 w))
    | _ => .error .shiftMode
  | 0b110 => .ok (.ori (wordRd w) (wordRs1 w) (wordImmI w))
  | _ => .ok (.andi (wordRd w) (wordRs1 w) (wordImmI w))

/-- The register arithmetic and the M extension (opcode 0110011). -/
def decodeOpReg (w : Word) : Except DecodeReject Instr :=
  let rd := wordRd w
  let rs1 := wordRs1 w
  let rs2 := wordRs2 w
  match (wordFunct7 w).toNat with
  | 0b0000000 =>
    match (wordFunct3 w).toNat with
    | 0b000 => .ok (.add rd rs1 rs2)
    | 0b001 => .ok (.sll rd rs1 rs2)
    | 0b010 => .ok (.slt rd rs1 rs2)
    | 0b011 => .ok (.sltu rd rs1 rs2)
    | 0b100 => .ok (.xor rd rs1 rs2)
    | 0b101 => .ok (.srl rd rs1 rs2)
    | 0b110 => .ok (.or rd rs1 rs2)
    | _ => .ok (.and rd rs1 rs2)
  | 0b0100000 =>
    match (wordFunct3 w).toNat with
    | 0b000 => .ok (.sub rd rs1 rs2)
    | 0b101 => .ok (.sra rd rs1 rs2)
    | _ => .error .funct7
  | 0b0000001 =>
    match (wordFunct3 w).toNat with
    | 0b000 => .ok (.mul rd rs1 rs2)
    | 0b001 => .ok (.mulh rd rs1 rs2)
    | 0b010 => .ok (.mulhsu rd rs1 rs2)
    | 0b011 => .ok (.mulhu rd rs1 rs2)
    | 0b100 => .ok (.div rd rs1 rs2)
    | 0b101 => .ok (.divu rd rs1 rs2)
    | 0b110 => .ok (.rem rd rs1 rs2)
    | _ => .ok (.remu rd rs1 rs2)
  | _ => .error .funct7

/-- The fences (opcode 0001111): `word[31:20]` holds fm, pred and succ. -/
def decodeFence (w : Word) : Except DecodeReject Instr :=
  match (wordFunct3 w).toNat with
  | 0b000 =>
    match (w.extractLsb' 28 4).toNat with
    | 0b0000 => .ok (.fence (wordRd w) (wordRs1 w) (w.extractLsb' 24 4) (w.extractLsb' 20 4))
    | 0b1000 => .ok (.fenceTso (wordRd w) (wordRs1 w) (w.extractLsb' 24 4) (w.extractLsb' 20 4))
    | _ => .error .fenceMode
  | _ => .error .funct3

/-- The system calls and the CSR words (opcode 1110011). -/
def decodeSystem (w : Word) : Except DecodeReject Instr :=
  match (wordFunct3 w).toNat with
  | 0b000 =>
    match (wordImmI w).toNat with
    | 0 => .ok (.ecall (wordRd w) (wordRs1 w))
    | 1 => .ok (.ebreak (wordRd w) (wordRs1 w))
    | _ => .error .funct12
  | 0b001 => .ok (.csrrw (wordRd w) (wordRs1 w) (wordImmI w))
  | 0b010 => .ok (.csrrs (wordRd w) (wordRs1 w) (wordImmI w))
  | 0b011 => .ok (.csrrc (wordRd w) (wordRs1 w) (wordImmI w))
  | 0b101 => .ok (.csrrwi (wordRd w) (wordRs1 w) (wordImmI w))
  | 0b110 => .ok (.csrrsi (wordRd w) (wordRs1 w) (wordImmI w))
  | 0b111 => .ok (.csrrci (wordRd w) (wordRs1 w) (wordImmI w))
  | _ => .error .funct3

/-- A 32-bit instruction word to the candidate mnemonic it is. -/
def decodeWord (w : Word) : Except DecodeReject Instr :=
  match (wordOpcode w).toNat with
  | 0b0110111 => .ok (.lui (wordRd w) (wordImmU w))
  | 0b0010111 => .ok (.auipc (wordRd w) (wordImmU w))
  | 0b1101111 => .ok (.jal (wordRd w) (wordImmJ w))
  | 0b1100111 =>
    match (wordFunct3 w).toNat with
    | 0b000 => .ok (.jalr (wordRd w) (wordRs1 w) (wordImmI w))
    | _ => .error .funct3
  | 0b1100011 => decodeBranch w
  | 0b0000011 => decodeLoad w
  | 0b0100011 => decodeStore w
  | 0b0010011 => decodeOpImm w
  | 0b0110011 => decodeOpReg w
  | 0b0001111 => decodeFence w
  | 0b1110011 => decodeSystem w
  | _ => .error .opcode

/-- R41, R42: the word whose four bytes in storage order are these. -/
def wordOfBytes (b0 b1 b2 b3 : Byte) : Word := b3 ++ b2 ++ b1 ++ b0

/-- R41: a word's four bytes in storage order, least significant first. -/
def bytesOfWord (w : Word) : List Byte :=
  [w.extractLsb' 0 8, w.extractLsb' 8 8, w.extractLsb' 16 8, w.extractLsb' 24 8]

/-- The decoder, total on any bytes: one byte is an `op` value, four are an instruction word. -/
def decode : List Byte → Except DecodeReject Instr
  | [b] => if b.extractLsb' 4 4 = 0#4 then .ok (decodeOp (b.extractLsb' 0 4)) else .error .opSelect
  | [b0, b1, b2, b3] => decodeWord (wordOfBytes b0 b1 b2 b3)
  | _ => .error .length

/-! ### The encoder -/

/-- R67. -/
def packR (opcode : BitVec 7) (funct3 : BitVec 3) (funct7 : BitVec 7) (rd rs1 rs2 : Reg) : Word :=
  funct7 ++ rs2 ++ rs1 ++ funct3 ++ rd ++ opcode

/-- R68. -/
def packI (opcode : BitVec 7) (funct3 : BitVec 3) (rd rs1 : Reg) (imm : BitVec 12) : Word :=
  imm ++ rs1 ++ funct3 ++ rd ++ opcode

/-- R69. -/
def packS (opcode : BitVec 7) (funct3 : BitVec 3) (rs1 rs2 : Reg) (imm : BitVec 12) : Word :=
  imm.extractLsb' 5 7 ++ rs2 ++ rs1 ++ funct3 ++ imm.extractLsb' 0 5 ++ opcode

/-- R70. -/
def packB (opcode : BitVec 7) (funct3 : BitVec 3) (rs1 rs2 : Reg) (imm : BitVec 13) : Word :=
  imm.extractLsb' 12 1 ++ imm.extractLsb' 5 6 ++ rs2 ++ rs1 ++ funct3
    ++ imm.extractLsb' 1 4 ++ imm.extractLsb' 11 1 ++ opcode

/-- R71. -/
def packU (opcode : BitVec 7) (rd : Reg) (imm : Word) : Word :=
  imm.extractLsb' 12 20 ++ rd ++ opcode

/-- R72. -/
def packJ (opcode : BitVec 7) (rd : Reg) (imm : BitVec 21) : Word :=
  imm.extractLsb' 20 1 ++ imm.extractLsb' 1 10 ++ imm.extractLsb' 11 1 ++ imm.extractLsb' 12 8
    ++ rd ++ opcode

/-- The `op` value of an operation (R60); none for the other instructions. -/
def encodeOp : Instr → Option (BitVec 4)
  | .encR => some 0b0000#4
  | .encI => some 0b0001#4
  | .encS => some 0b0010#4
  | .encB => some 0b0011#4
  | .encU => some 0b0100#4
  | .encJ => some 0b0101#4
  | .reserved0110 => some 0b0110#4
  | .reserved0111 => some 0b0111#4
  | .decR => some 0b1000#4
  | .decI => some 0b1001#4
  | .decS => some 0b1010#4
  | .decB => some 0b1011#4
  | .decU => some 0b1100#4
  | .decJ => some 0b1101#4
  | .decode => some 0b1110#4
  | .reserved1111 => some 0b1111#4
  | _ => none

/-- The word of a candidate mnemonic (30_encoding.md section 6); none for the other instructions. -/
def encodeWord : Instr → Option Word
  | .lui rd imm => some (packU 0b0110111#7 rd imm)
  | .auipc rd imm => some (packU 0b0010111#7 rd imm)
  | .jal rd imm => some (packJ 0b1101111#7 rd imm)
  | .jalr rd rs1 imm => some (packI 0b1100111#7 0b000#3 rd rs1 imm)
  | .beq rs1 rs2 imm => some (packB 0b1100011#7 0b000#3 rs1 rs2 imm)
  | .bne rs1 rs2 imm => some (packB 0b1100011#7 0b001#3 rs1 rs2 imm)
  | .blt rs1 rs2 imm => some (packB 0b1100011#7 0b100#3 rs1 rs2 imm)
  | .bge rs1 rs2 imm => some (packB 0b1100011#7 0b101#3 rs1 rs2 imm)
  | .bltu rs1 rs2 imm => some (packB 0b1100011#7 0b110#3 rs1 rs2 imm)
  | .bgeu rs1 rs2 imm => some (packB 0b1100011#7 0b111#3 rs1 rs2 imm)
  | .lb rd rs1 imm => some (packI 0b0000011#7 0b000#3 rd rs1 imm)
  | .lh rd rs1 imm => some (packI 0b0000011#7 0b001#3 rd rs1 imm)
  | .lw rd rs1 imm => some (packI 0b0000011#7 0b010#3 rd rs1 imm)
  | .lbu rd rs1 imm => some (packI 0b0000011#7 0b100#3 rd rs1 imm)
  | .lhu rd rs1 imm => some (packI 0b0000011#7 0b101#3 rd rs1 imm)
  | .sb rs1 rs2 imm => some (packS 0b0100011#7 0b000#3 rs1 rs2 imm)
  | .sh rs1 rs2 imm => some (packS 0b0100011#7 0b001#3 rs1 rs2 imm)
  | .sw rs1 rs2 imm => some (packS 0b0100011#7 0b010#3 rs1 rs2 imm)
  | .addi rd rs1 imm => some (packI 0b0010011#7 0b000#3 rd rs1 imm)
  | .slti rd rs1 imm => some (packI 0b0010011#7 0b010#3 rd rs1 imm)
  | .sltiu rd rs1 imm => some (packI 0b0010011#7 0b011#3 rd rs1 imm)
  | .xori rd rs1 imm => some (packI 0b0010011#7 0b100#3 rd rs1 imm)
  | .ori rd rs1 imm => some (packI 0b0010011#7 0b110#3 rd rs1 imm)
  | .andi rd rs1 imm => some (packI 0b0010011#7 0b111#3 rd rs1 imm)
  | .slli rd rs1 shamt => some (packR 0b0010011#7 0b001#3 0b0000000#7 rd rs1 shamt)
  | .srli rd rs1 shamt => some (packR 0b0010011#7 0b101#3 0b0000000#7 rd rs1 shamt)
  | .srai rd rs1 shamt => some (packR 0b0010011#7 0b101#3 0b0100000#7 rd rs1 shamt)
  | .add rd rs1 rs2 => some (packR 0b0110011#7 0b000#3 0b0000000#7 rd rs1 rs2)
  | .sub rd rs1 rs2 => some (packR 0b0110011#7 0b000#3 0b0100000#7 rd rs1 rs2)
  | .sll rd rs1 rs2 => some (packR 0b0110011#7 0b001#3 0b0000000#7 rd rs1 rs2)
  | .slt rd rs1 rs2 => some (packR 0b0110011#7 0b010#3 0b0000000#7 rd rs1 rs2)
  | .sltu rd rs1 rs2 => some (packR 0b0110011#7 0b011#3 0b0000000#7 rd rs1 rs2)
  | .xor rd rs1 rs2 => some (packR 0b0110011#7 0b100#3 0b0000000#7 rd rs1 rs2)
  | .srl rd rs1 rs2 => some (packR 0b0110011#7 0b101#3 0b0000000#7 rd rs1 rs2)
  | .sra rd rs1 rs2 => some (packR 0b0110011#7 0b101#3 0b0100000#7 rd rs1 rs2)
  | .or rd rs1 rs2 => some (packR 0b0110011#7 0b110#3 0b0000000#7 rd rs1 rs2)
  | .and rd rs1 rs2 => some (packR 0b0110011#7 0b111#3 0b0000000#7 rd rs1 rs2)
  | .mul rd rs1 rs2 => some (packR 0b0110011#7 0b000#3 0b0000001#7 rd rs1 rs2)
  | .mulh rd rs1 rs2 => some (packR 0b0110011#7 0b001#3 0b0000001#7 rd rs1 rs2)
  | .mulhsu rd rs1 rs2 => some (packR 0b0110011#7 0b010#3 0b0000001#7 rd rs1 rs2)
  | .mulhu rd rs1 rs2 => some (packR 0b0110011#7 0b011#3 0b0000001#7 rd rs1 rs2)
  | .div rd rs1 rs2 => some (packR 0b0110011#7 0b100#3 0b0000001#7 rd rs1 rs2)
  | .divu rd rs1 rs2 => some (packR 0b0110011#7 0b101#3 0b0000001#7 rd rs1 rs2)
  | .rem rd rs1 rs2 => some (packR 0b0110011#7 0b110#3 0b0000001#7 rd rs1 rs2)
  | .remu rd rs1 rs2 => some (packR 0b0110011#7 0b111#3 0b0000001#7 rd rs1 rs2)
  | .fence rd rs1 pred succ => some (packI 0b0001111#7 0b000#3 rd rs1 (0b0000#4 ++ pred ++ succ))
  | .fenceTso rd rs1 pred succ => some (packI 0b0001111#7 0b000#3 rd rs1 (0b1000#4 ++ pred ++ succ))
  | .ecall rd rs1 => some (packI 0b1110011#7 0b000#3 rd rs1 0#12)
  | .ebreak rd rs1 => some (packI 0b1110011#7 0b000#3 rd rs1 1#12)
  | .csrrw rd rs1 csr => some (packI 0b1110011#7 0b001#3 rd rs1 csr)
  | .csrrs rd rs1 csr => some (packI 0b1110011#7 0b010#3 rd rs1 csr)
  | .csrrc rd rs1 csr => some (packI 0b1110011#7 0b011#3 rd rs1 csr)
  | .csrrwi rd zimm csr => some (packI 0b1110011#7 0b101#3 rd zimm csr)
  | .csrrsi rd zimm csr => some (packI 0b1110011#7 0b110#3 rd zimm csr)
  | .csrrci rd zimm csr => some (packI 0b1110011#7 0b111#3 rd zimm csr)
  | _ => none

/-- The stored bytes of an instruction: one for an `op` value, four for an instruction word, none for a
sub-unit, which nothing selects (R63). -/
def encode (i : Instr) : Option (List Byte) :=
  match encodeOp i with
  | some op => some [0#4 ++ op]
  | none => (encodeWord i).map bytesOfWord

/-! ### The opcode table's words -/

/-- The bytes of a table word. The table has two kinds of row: a 4-bit `op` value (one byte, below 16)
and a 32-bit instruction word, of which the table may give only the low bits (DESIGN CHOICE, assumption log 7). -/
def tableBytes (nbits w : Nat) : List Byte :=
  if nbits ≤ 8 ∧ w < 16 then [BitVec.ofNat 8 w] else bytesOfWord (BitVec.ofNat 32 w)

/-- The instruction the decoder reads from a table word. -/
def decodeTableWord (nbits w : Nat) : Option Instr :=
  if nbits ≤ 32 ∧ w < 2 ^ 32 then
    match decode (tableBytes nbits w) with
    | .ok i => some i
    | .error _ => none
  else none

end Sys2Proof
end

