-- ==== Sys2Proof/Machine/Operands.lean ====
section
/-!
DEFINITION. Operand forms: which word a decode reads (spec/20_memory.md R42), the constant range tables
of the six encoders over the input signals (spec/43_format_encoders.md R150 to R156) and of the decoders'
immediates (spec/44_format_decoders.md R173 to R176), and how a caller presents a word.
-/

namespace Sys2Proof.Machine

/-- R42: the word every decode operation reads: the byte lanes in storage order when `in_bytes_sel = 1`,
`in_word` otherwise. -/
def Inputs.selected (i : Inputs) : Word :=
  if i.bytesSel = 1#1 then wordOfBytes i.byte0 i.byte1 i.byte2 i.byte3 else i.word

/-- The half-open range `[a, b)`. -/
def rng (a b : Int) : BitRange := ⟨a, b⟩

/-- R151, table `T_R`. Every value is the input zero-extended to 32 bits. -/
def tableR (i : Inputs) : List BitFieldSpec :=
  [ ⟨rng 0 7, i.opcode.setWidth 32, rng 0 7⟩
  , ⟨rng 7 12, i.rd.setWidth 32, rng 0 5⟩
  , ⟨rng 12 15, i.funct3.setWidth 32, rng 0 3⟩
  , ⟨rng 15 20, i.rs1.setWidth 32, rng 0 5⟩
  , ⟨rng 20 25, i.rs2.setWidth 32, rng 0 5⟩
  , ⟨rng 25 32, i.funct7.setWidth 32, rng 0 7⟩ ]

/-- R152, table `T_I`. -/
def tableI (i : Inputs) : List BitFieldSpec :=
  [ ⟨rng 0 7, i.opcode.setWidth 32, rng 0 7⟩
  , ⟨rng 7 12, i.rd.setWidth 32, rng 0 5⟩
  , ⟨rng 12 15, i.funct3.setWidth 32, rng 0 3⟩
  , ⟨rng 15 20, i.rs1.setWidth 32, rng 0 5⟩
  , ⟨rng 20 32, i.imm, rng 0 12⟩ ]

/-- R153, table `T_S`. -/
def tableS (i : Inputs) : List BitFieldSpec :=
  [ ⟨rng 0 7, i.opcode.setWidth 32, rng 0 7⟩
  , ⟨rng 7 12, i.imm, rng 0 5⟩
  , ⟨rng 12 15, i.funct3.setWidth 32, rng 0 3⟩
  , ⟨rng 15 20, i.rs1.setWidth 32, rng 0 5⟩
  , ⟨rng 20 25, i.rs2.setWidth 32, rng 0 5⟩
  , ⟨rng 25 32, i.imm, rng 5 12⟩ ]

/-- R154, table `T_B`. -/
def tableB (i : Inputs) : List BitFieldSpec :=
  [ ⟨rng 0 7, i.opcode.setWidth 32, rng 0 7⟩
  , ⟨rng 7 8, i.imm, rng 11 12⟩
  , ⟨rng 8 12, i.imm, rng 1 5⟩
  , ⟨rng 12 15, i.funct3.setWidth 32, rng 0 3⟩
  , ⟨rng 15 20, i.rs1.setWidth 32, rng 0 5⟩
  , ⟨rng 20 25, i.rs2.setWidth 32, rng 0 5⟩
  , ⟨rng 25 31, i.imm, rng 5 11⟩
  , ⟨rng 31 32, i.imm, rng 12 13⟩ ]

/-- R155, table `T_U`: the immediate is taken in place, from bits 31 to 12. -/
def tableU (i : Inputs) : List BitFieldSpec :=
  [ ⟨rng 0 7, i.opcode.setWidth 32, rng 0 7⟩
  , ⟨rng 7 12, i.rd.setWidth 32, rng 0 5⟩
  , ⟨rng 12 32, i.imm, rng 12 32⟩ ]

/-- R156, table `T_J`. -/
def tableJ (i : Inputs) : List BitFieldSpec :=
  [ ⟨rng 0 7, i.opcode.setWidth 32, rng 0 7⟩
  , ⟨rng 7 12, i.rd.setWidth 32, rng 0 5⟩
  , ⟨rng 12 20, i.imm, rng 12 20⟩
  , ⟨rng 20 21, i.imm, rng 11 12⟩
  , ⟨rng 21 31, i.imm, rng 1 11⟩
  , ⟨rng 31 32, i.imm, rng 20 21⟩ ]

/-- R173: the S immediate's slices. -/
def immTableS (w : Word) : List BitFieldSpec :=
  [⟨rng 0 5, w, rng 7 12⟩, ⟨rng 5 12, w, rng 25 32⟩]

/-- R174: the B immediate's slices. No spec writes bit 0. -/
def immTableB (w : Word) : List BitFieldSpec :=
  [⟨rng 1 5, w, rng 8 12⟩, ⟨rng 5 11, w, rng 25 31⟩, ⟨rng 11 12, w, rng 7 8⟩,
    ⟨rng 12 13, w, rng 31 32⟩]

/-- R175: the U immediate's slice. -/
def immTableU (w : Word) : List BitFieldSpec := [⟨rng 12 32, w, rng 12 32⟩]

/-- R176: the J immediate's slices. No spec writes bit 0. -/
def immTableJ (w : Word) : List BitFieldSpec :=
  [⟨rng 1 11, w, rng 21 31⟩, ⟨rng 11 12, w, rng 20 21⟩, ⟨rng 12 20, w, rng 12 20⟩,
    ⟨rng 20 21, w, rng 31 32⟩]

/-- R114: the port contract `imm_ok(fmt, in_imm)`. -/
def immOk (f : Fmt) (imm : Word) : Bool :=
  match f with
  | .R => true
  | .I =>
    imm == (imm.extractLsb' 0 12).signExtend 32 || imm == (imm.extractLsb' 0 12).setWidth 32
  | .S => imm == (imm.extractLsb' 0 12).signExtend 32
  | .B => imm == (imm.extractLsb' 0 13).signExtend 32
  | .U => imm.extractLsb' 0 12 == 0#12
  | .J => imm == (imm.extractLsb' 0 21).signExtend 32

/-- The operation the `op` input selects (R60). -/
def State.fetch (s : State) : Instr := decodeOp s.inp.op

/-- The caller presents a table word where the next evaluation takes it: an `op` value on `op`, an
instruction word on `in_word` under DECODE (DESIGN CHOICE, assumption log 7). -/
def Inputs.present (i : Inputs) (nbits w : Nat) : Inputs :=
  if nbits ≤ 8 ∧ w < 16 then { i with op := BitVec.ofNat 4 w }
  else { i with op := 0b1110#4, word := BitVec.ofNat 32 w, bytesSel := 0#1 }

end Sys2Proof.Machine
end

