-- ==== Sys2Proof/Machine/Ops.lean ====
section
/-!
DEFINITION. The operations the meanings share: driving the outputs, the format encoders' and decoders'
data flow over MERGE, EXTRACT and SEXT (spec/43_format_encoders.md R150; spec/44_format_decoders.md R170),
and the table dispatch of DECODE (spec/45_top_level_decode.md R195).

The block has neither registers nor memory to operate on, and it takes no trap: an error saves no
state, changes no mode and transfers control nowhere, and there is no return from one
(spec/60_exceptions.md R216, R217). So there is no operation here that takes an exception.
-/

namespace Sys2Proof.Machine

/-- What one step answers. -/
abbrev Result := Host.Outcome State Fault Refusal

/-- R126: every defect of a MERGE or EXTRACT table is the one outcome "the instance's table is wrong"
(DEDUCED, assumption log 6). -/
def faultOf : FaultCode → Fault
  | .reservedOp => .reservedOp
  | .lengthMismatch => .wrongTable
  | .rangeBounds => .wrongTable
  | .overlap => .wrongTable
  | .sextWidth => .sextWidth

/-- The outputs become these; the inputs and the parameter are not the evaluation's to change. -/
def State.drive (s : State) (o : Outputs) : State := { s with out := o }

/-- The sub-unit instance's result; the block's own outputs are not its to drive (R63). -/
def State.setSub (s : State) (w : Word) : State := { s with subOut := w }

/-- An evaluation that computed its outputs drives them; one in which an instance faulted is a fault
outcome (R212). -/
def finish (s : State) : Except FaultCode Outputs → Result
  | .ok o => .next (s.drive o)
  | .error c => .fault (faultOf c)

/-- The evaluation of one sub-unit instance. -/
def finishSub (s : State) : Except FaultCode Word → Result
  | .ok w => .next (s.setSub w)
  | .error c => .fault (faultOf c)

/-- R41, R150: an encoded word and its byte lanes, every other output 0. -/
def wordOutputs (w : Word) : Outputs :=
  { Outputs.zero with
    word := w
    byte0 := w.extractLsb' 0 8
    byte1 := w.extractLsb' 8 8
    byte2 := w.extractLsb' 16 8
    byte3 := w.extractLsb' 24 8 }

/-- R150: `out_word <- MERGE(T_f)`. -/
def encodeOutputs (table : List BitFieldSpec) : Except FaultCode Outputs := do
  let w ← merge table
  .ok (wordOutputs w)

/-- R171: DEC_R. -/
def decFieldsR (w : Word) : Except FaultCode Outputs := do
  let opcode ← extract w (rng 0 7)
  let rd ← extract w (rng 7 12)
  let funct3 ← extract w (rng 12 15)
  let rs1 ← extract w (rng 15 20)
  let rs2 ← extract w (rng 20 25)
  let funct7 ← extract w (rng 25 32)
  .ok { Outputs.zero with
    opcode := opcode.setWidth 7
    rd := rd.setWidth 5
    funct3 := funct3.setWidth 3
    rs1 := rs1.setWidth 5
    rs2 := rs2.setWidth 5
    funct7 := funct7.setWidth 7
    fmt := Fmt.R.code }

/-- R172: DEC_I. -/
def decFieldsI (w : Word) : Except FaultCode Outputs := do
  let opcode ← extract w (rng 0 7)
  let rd ← extract w (rng 7 12)
  let funct3 ← extract w (rng 12 15)
  let rs1 ← extract w (rng 15 20)
  let raw ← extract w (rng 20 32)
  let imm ← sext 12 raw
  .ok { Outputs.zero with
    opcode := opcode.setWidth 7
    rd := rd.setWidth 5
    funct3 := funct3.setWidth 3
    rs1 := rs1.setWidth 5
    imm := imm
    fmt := Fmt.I.code }

/-- The fields S and B have in common with each other, and the immediate given. -/
def storeOutputs (f : Fmt) (w imm : Word) : Except FaultCode Outputs := do
  let opcode ← extract w (rng 0 7)
  let funct3 ← extract w (rng 12 15)
  let rs1 ← extract w (rng 15 20)
  let rs2 ← extract w (rng 20 25)
  .ok { Outputs.zero with
    opcode := opcode.setWidth 7
    funct3 := funct3.setWidth 3
    rs1 := rs1.setWidth 5
    rs2 := rs2.setWidth 5
    imm := imm
    fmt := f.code }

/-- R173: DEC_S. -/
def decFieldsS (w : Word) : Except FaultCode Outputs := do
  let raw ← merge (immTableS w)
  let imm ← sext 12 raw
  storeOutputs .S w imm

/-- R174: DEC_B. -/
def decFieldsB (w : Word) : Except FaultCode Outputs := do
  let raw ← merge (immTableB w)
  let imm ← sext 13 raw
  storeOutputs .B w imm

/-- The fields U and J have in common with each other, and the immediate given. -/
def upperOutputs (f : Fmt) (w imm : Word) : Except FaultCode Outputs := do
  let opcode ← extract w (rng 0 7)
  let rd ← extract w (rng 7 12)
  .ok { Outputs.zero with
    opcode := opcode.setWidth 7
    rd := rd.setWidth 5
    imm := imm
    fmt := f.code }

/-- R175: DEC_U. The immediate is not sign-extended. -/
def decFieldsU (w : Word) : Except FaultCode Outputs := do
  let imm ← merge (immTableU w)
  upperOutputs .U w imm

/-- R176: DEC_J. -/
def decFieldsJ (w : Word) : Except FaultCode Outputs := do
  let raw ← merge (immTableJ w)
  let imm ← sext 21 raw
  upperOutputs .J w imm

/-- R195: `DEC_{row.fmt}`. -/
def decFields : Fmt → Word → Except FaultCode Outputs
  | .R => decFieldsR
  | .I => decFieldsI
  | .S => decFieldsS
  | .B => decFieldsB
  | .U => decFieldsU
  | .J => decFieldsJ

/-- R195, the last stage, over the rows that passed the opcode and funct3 stages. `first` is the first
of them that has a sub-field; by WF3 every other has its kind and range. -/
def selectBySub (rows : List Row) (first : SubField) (w : Word) :
    Except FaultCode (Except DecodeError Row) := do
  let v ← extract w first.range
  match rows.filter (·.takesSub v) with
  | [] => .ok (.error ⟨.sub first.kind, v.setWidth 12⟩)
  | row :: _ => .ok (.ok row)

/-- R195: the stages "read opcode", "read funct3" and "read funct7 or sub-mode", the first that fails
ending the decode (R193, R198). -/
def selectRow (rows : List Row) (w : Word) : Except FaultCode (Except DecodeError Row) := do
  let opc ← extract w (rng 0 7)
  match rows.filter (·.takesOpcode opc) with
  | [] => .ok (.error ⟨.opcode, opc.setWidth 12⟩)
  | a =>
    let f3 ← extract w (rng 12 15)
    match a.filter (·.takesFunct3 f3) with
    | [] => .ok (.error ⟨.funct3, f3.setWidth 12⟩)
    | row :: rest =>
      match (row :: rest).filterMap Row.sub with
      | [] => .ok (.ok row)
      | first :: _ => selectBySub (row :: rest) first w

/-- R195: DECODE of a word. A decode error is a result, not a fault (R196). -/
def decodeOutputs (rows : List Row) (w : Word) : Except FaultCode Outputs := do
  match ← selectRow rows w with
  | .error e => .ok e.outputs
  | .ok row =>
    let o ← decFields row.fmt w
    .ok { o with mnem := row.idx }

/-- DECODE of a word by this block's `DISPATCH`. -/
def recognise (w : Word) (s : State) : Result := finish s (decodeOutputs s.dispatch.rows w)

end Sys2Proof.Machine
end

