-- ==== Sys2Proof/Machine/Decoders.lean ====
section
/-!
DEFINITION. The six format decoders (spec/44_format_decoders.md). Each drives the fields its format defines
and `out_fmt`, every other output 0 (R170). They are total: every word has fields in every format, and
none checks that the word's opcode belongs to the format (R177).
-/

namespace Sys2Proof.Machine

/-- R171: DEC_R. -/
def execDecR (s : State) : Result := finish s (decFieldsR s.inp.selected)

/-- R172: DEC_I. -/
def execDecI (s : State) : Result := finish s (decFieldsI s.inp.selected)

/-- R173: DEC_S. -/
def execDecS (s : State) : Result := finish s (decFieldsS s.inp.selected)

/-- R174: DEC_B. -/
def execDecB (s : State) : Result := finish s (decFieldsB s.inp.selected)

/-- R175: DEC_U. -/
def execDecU (s : State) : Result := finish s (decFieldsU s.inp.selected)

/-- R176: DEC_J. -/
def execDecJ (s : State) : Result := finish s (decFieldsJ s.inp.selected)

end Sys2Proof.Machine
end

