-- ==== Sys2Proof/Machine/Encoders.lean ====
section
/-!
DEFINITION. The six format encoders (spec/43_format_encoders.md). Each packs its inputs with the one merge
engine over its constant table, drives `out_word` and the byte lanes, and drives every other output to 0
(R150). They are total: a built block's tables never fault (R157).
-/

namespace Sys2Proof.Machine

/-- R151: ENC_R. -/
def execEncR (s : State) : Result := finish s (encodeOutputs (tableR s.inp))

/-- R152: ENC_I. -/
def execEncI (s : State) : Result := finish s (encodeOutputs (tableI s.inp))

/-- R153: ENC_S. -/
def execEncS (s : State) : Result := finish s (encodeOutputs (tableS s.inp))

/-- R154: ENC_B. -/
def execEncB (s : State) : Result := finish s (encodeOutputs (tableB s.inp))

/-- R155: ENC_U. -/
def execEncU (s : State) : Result := finish s (encodeOutputs (tableU s.inp))

/-- R156: ENC_J. -/
def execEncJ (s : State) : Result := finish s (encodeOutputs (tableJ s.inp))

end Sys2Proof.Machine
end

