-- ==== Sys2Proof/Machine/MnemonicsArithmetic.lean ====
section
/-!
DEFINITION. The candidate mnemonics, immediate, register and multiply/divide arithmetic. A row of the informative candidate stands for a
word that DECODE recognises (spec/45_top_level_decode.md R195): the instruction's meaning is DECODE of its
word by the `DISPATCH` the block was built with. A block built with the candidate answers the row's index
and the fields of its format; one built with another table answers what that table says of the word,
which may be a decode error (DEDUCED, assumption log 11). Executing the encoded instruction is no part of the block (R3, R31).
-/

namespace Sys2Proof.Machine

/-- `addi`: candidate row 18, format I. -/
def execAddi (rd rs1 : Reg) (imm : BitVec 12) (s : State) : Result :=
  recognise (packI 0b0010011#7 0b000#3 rd rs1 imm) s

/-- `slti`: candidate row 19, format I. -/
def execSlti (rd rs1 : Reg) (imm : BitVec 12) (s : State) : Result :=
  recognise (packI 0b0010011#7 0b010#3 rd rs1 imm) s

/-- `sltiu`: candidate row 20, format I. -/
def execSltiu (rd rs1 : Reg) (imm : BitVec 12) (s : State) : Result :=
  recognise (packI 0b0010011#7 0b011#3 rd rs1 imm) s

/-- `xori`: candidate row 21, format I. -/
def execXori (rd rs1 : Reg) (imm : BitVec 12) (s : State) : Result :=
  recognise (packI 0b0010011#7 0b100#3 rd rs1 imm) s

/-- `ori`: candidate row 22, format I. -/
def execOri (rd rs1 : Reg) (imm : BitVec 12) (s : State) : Result :=
  recognise (packI 0b0010011#7 0b110#3 rd rs1 imm) s

/-- `andi`: candidate row 23, format I. -/
def execAndi (rd rs1 : Reg) (imm : BitVec 12) (s : State) : Result :=
  recognise (packI 0b0010011#7 0b111#3 rd rs1 imm) s

/-- `slli`: candidate row 24, format R. -/
def execSlli (rd rs1 : Reg) (shamt : BitVec 5) (s : State) : Result :=
  recognise (packR 0b0010011#7 0b001#3 0b0000000#7 rd rs1 shamt) s

/-- `srli`: candidate row 25, format R. -/
def execSrli (rd rs1 : Reg) (shamt : BitVec 5) (s : State) : Result :=
  recognise (packR 0b0010011#7 0b101#3 0b0000000#7 rd rs1 shamt) s

/-- `srai`: candidate row 26, format R. -/
def execSrai (rd rs1 : Reg) (shamt : BitVec 5) (s : State) : Result :=
  recognise (packR 0b0010011#7 0b101#3 0b0100000#7 rd rs1 shamt) s

/-- `add`: candidate row 27, format R. -/
def execAdd (rd rs1 rs2 : Reg) (s : State) : Result :=
  recognise (packR 0b0110011#7 0b000#3 0b0000000#7 rd rs1 rs2) s

/-- `sub`: candidate row 28, format R. -/
def execSub (rd rs1 rs2 : Reg) (s : State) : Result :=
  recognise (packR 0b0110011#7 0b000#3 0b0100000#7 rd rs1 rs2) s

/-- `sll`: candidate row 29, format R. -/
def execSll (rd rs1 rs2 : Reg) (s : State) : Result :=
  recognise (packR 0b0110011#7 0b001#3 0b0000000#7 rd rs1 rs2) s

/-- `slt`: candidate row 30, format R. -/
def execSlt (rd rs1 rs2 : Reg) (s : State) : Result :=
  recognise (packR 0b0110011#7 0b010#3 0b0000000#7 rd rs1 rs2) s

/-- `sltu`: candidate row 31, format R. -/
def execSltu (rd rs1 rs2 : Reg) (s : State) : Result :=
  recognise (packR 0b0110011#7 0b011#3 0b0000000#7 rd rs1 rs2) s

/-- `xor`: candidate row 32, format R. -/
def execXor (rd rs1 rs2 : Reg) (s : State) : Result :=
  recognise (packR 0b0110011#7 0b100#3 0b0000000#7 rd rs1 rs2) s

/-- `srl`: candidate row 33, format R. -/
def execSrl (rd rs1 rs2 : Reg) (s : State) : Result :=
  recognise (packR 0b0110011#7 0b101#3 0b0000000#7 rd rs1 rs2) s

/-- `sra`: candidate row 34, format R. -/
def execSra (rd rs1 rs2 : Reg) (s : State) : Result :=
  recognise (packR 0b0110011#7 0b101#3 0b0100000#7 rd rs1 rs2) s

/-- `or`: candidate row 35, format R. -/
def execOr (rd rs1 rs2 : Reg) (s : State) : Result :=
  recognise (packR 0b0110011#7 0b110#3 0b0000000#7 rd rs1 rs2) s

/-- `and`: candidate row 36, format R. -/
def execAnd (rd rs1 rs2 : Reg) (s : State) : Result :=
  recognise (packR 0b0110011#7 0b111#3 0b0000000#7 rd rs1 rs2) s

/-- `mul`: candidate row 37, format R. -/
def execMul (rd rs1 rs2 : Reg) (s : State) : Result :=
  recognise (packR 0b0110011#7 0b000#3 0b0000001#7 rd rs1 rs2) s

/-- `mulh`: candidate row 38, format R. -/
def execMulh (rd rs1 rs2 : Reg) (s : State) : Result :=
  recognise (packR 0b0110011#7 0b001#3 0b0000001#7 rd rs1 rs2) s

/-- `mulhsu`: candidate row 39, format R. -/
def execMulhsu (rd rs1 rs2 : Reg) (s : State) : Result :=
  recognise (packR 0b0110011#7 0b010#3 0b0000001#7 rd rs1 rs2) s

/-- `mulhu`: candidate row 40, format R. -/
def execMulhu (rd rs1 rs2 : Reg) (s : State) : Result :=
  recognise (packR 0b0110011#7 0b011#3 0b0000001#7 rd rs1 rs2) s

/-- `div`: candidate row 41, format R. -/
def execDiv (rd rs1 rs2 : Reg) (s : State) : Result :=
  recognise (packR 0b0110011#7 0b100#3 0b0000001#7 rd rs1 rs2) s

/-- `divu`: candidate row 42, format R. -/
def execDivu (rd rs1 rs2 : Reg) (s : State) : Result :=
  recognise (packR 0b0110011#7 0b101#3 0b0000001#7 rd rs1 rs2) s

/-- `rem`: candidate row 43, format R. -/
def execRem (rd rs1 rs2 : Reg) (s : State) : Result :=
  recognise (packR 0b0110011#7 0b110#3 0b0000001#7 rd rs1 rs2) s

/-- `remu`: candidate row 44, format R. -/
def execRemu (rd rs1 rs2 : Reg) (s : State) : Result :=
  recognise (packR 0b0110011#7 0b111#3 0b0000001#7 rd rs1 rs2) s

end Sys2Proof.Machine
end

