-- ==== Sys2Proof/Machine/MnemonicsControl.lean ====
section
/-!
DEFINITION. The candidate mnemonics, upper immediates, jumps and branches. A row of the informative candidate stands for a
word that DECODE recognises (spec/45_top_level_decode.md R195): the instruction's meaning is DECODE of its
word by the `DISPATCH` the block was built with. A block built with the candidate answers the row's index
and the fields of its format; one built with another table answers what that table says of the word,
which may be a decode error (DEDUCED, assumption log 11). Executing the encoded instruction is no part of the block (R3, R31).
-/

namespace Sys2Proof.Machine

/-- `lui`: candidate row 0, format U. -/
def execLui (rd : Reg) (imm : Word) (s : State) : Result :=
  recognise (packU 0b0110111#7 rd imm) s

/-- `auipc`: candidate row 1, format U. -/
def execAuipc (rd : Reg) (imm : Word) (s : State) : Result :=
  recognise (packU 0b0010111#7 rd imm) s

/-- `jal`: candidate row 2, format J. -/
def execJal (rd : Reg) (imm : BitVec 21) (s : State) : Result :=
  recognise (packJ 0b1101111#7 rd imm) s

/-- `jalr`: candidate row 3, format I. -/
def execJalr (rd rs1 : Reg) (imm : BitVec 12) (s : State) : Result :=
  recognise (packI 0b1100111#7 0b000#3 rd rs1 imm) s

/-- `beq`: candidate row 4, format B. -/
def execBeq (rs1 rs2 : Reg) (imm : BitVec 13) (s : State) : Result :=
  recognise (packB 0b1100011#7 0b000#3 rs1 rs2 imm) s

/-- `bne`: candidate row 5, format B. -/
def execBne (rs1 rs2 : Reg) (imm : BitVec 13) (s : State) : Result :=
  recognise (packB 0b1100011#7 0b001#3 rs1 rs2 imm) s

/-- `blt`: candidate row 6, format B. -/
def execBlt (rs1 rs2 : Reg) (imm : BitVec 13) (s : State) : Result :=
  recognise (packB 0b1100011#7 0b100#3 rs1 rs2 imm) s

/-- `bge`: candidate row 7, format B. -/
def execBge (rs1 rs2 : Reg) (imm : BitVec 13) (s : State) : Result :=
  recognise (packB 0b1100011#7 0b101#3 rs1 rs2 imm) s

/-- `bltu`: candidate row 8, format B. -/
def execBltu (rs1 rs2 : Reg) (imm : BitVec 13) (s : State) : Result :=
  recognise (packB 0b1100011#7 0b110#3 rs1 rs2 imm) s

/-- `bgeu`: candidate row 9, format B. -/
def execBgeu (rs1 rs2 : Reg) (imm : BitVec 13) (s : State) : Result :=
  recognise (packB 0b1100011#7 0b111#3 rs1 rs2 imm) s

end Sys2Proof.Machine
end

