-- ==== Sys2Proof/Machine/MnemonicsMemory.lean ====
section
/-!
DEFINITION. The candidate mnemonics, loads and stores. A row of the informative candidate stands for a
word that DECODE recognises (spec/45_top_level_decode.md R195): the instruction's meaning is DECODE of its
word by the `DISPATCH` the block was built with. A block built with the candidate answers the row's index
and the fields of its format; one built with another table answers what that table says of the word,
which may be a decode error (DEDUCED, assumption log 11). Executing the encoded instruction is no part of the block (R3, R31).
-/

namespace Sys2Proof.Machine

/-- `lb`: candidate row 10, format I. -/
def execLb (rd rs1 : Reg) (imm : BitVec 12) (s : State) : Result :=
  recognise (packI 0b0000011#7 0b000#3 rd rs1 imm) s

/-- `lh`: candidate row 11, format I. -/
def execLh (rd rs1 : Reg) (imm : BitVec 12) (s : State) : Result :=
  recognise (packI 0b0000011#7 0b001#3 rd rs1 imm) s

/-- `lw`: candidate row 12, format I. -/
def execLw (rd rs1 : Reg) (imm : BitVec 12) (s : State) : Result :=
  recognise (packI 0b0000011#7 0b010#3 rd rs1 imm) s

/-- `lbu`: candidate row 13, format I. -/
def execLbu (rd rs1 : Reg) (imm : BitVec 12) (s : State) : Result :=
  recognise (packI 0b0000011#7 0b100#3 rd rs1 imm) s

/-- `lhu`: candidate row 14, format I. -/
def execLhu (rd rs1 : Reg) (imm : BitVec 12) (s : State) : Result :=
  recognise (packI 0b0000011#7 0b101#3 rd rs1 imm) s

/-- `sb`: candidate row 15, format S. -/
def execSb (rs1 rs2 : Reg) (imm : BitVec 12) (s : State) : Result :=
  recognise (packS 0b0100011#7 0b000#3 rs1 rs2 imm) s

/-- `sh`: candidate row 16, format S. -/
def execSh (rs1 rs2 : Reg) (imm : BitVec 12) (s : State) : Result :=
  recognise (packS 0b0100011#7 0b001#3 rs1 rs2 imm) s

/-- `sw`: candidate row 17, format S. -/
def execSw (rs1 rs2 : Reg) (imm : BitVec 12) (s : State) : Result :=
  recognise (packS 0b0100011#7 0b010#3 rs1 rs2 imm) s

end Sys2Proof.Machine
end

