-- ==== Sys2Proof/Machine/MnemonicsSystem.lean ====
section
/-!
DEFINITION. The candidate mnemonics, fences, system calls and CSR words. A row of the informative candidate stands for a
word that DECODE recognises (spec/45_top_level_decode.md R195): the instruction's meaning is DECODE of its
word by the `DISPATCH` the block was built with. A block built with the candidate answers the row's index
and the fields of its format; one built with another table answers what that table says of the word,
which may be a decode error (DEDUCED, assumption log 11). Executing the encoded instruction is no part of the block (R3, R31).
-/

namespace Sys2Proof.Machine

/-- `fence`: candidate row 45, format I. -/
def execFence (rd rs1 : Reg) (pred succ : BitVec 4) (s : State) : Result :=
  recognise (packI 0b0001111#7 0b000#3 rd rs1 (0b0000#4 ++ pred ++ succ)) s

/-- `fence.tso`: candidate row 46, format I. -/
def execFenceTso (rd rs1 : Reg) (pred succ : BitVec 4) (s : State) : Result :=
  recognise (packI 0b0001111#7 0b000#3 rd rs1 (0b1000#4 ++ pred ++ succ)) s

/-- `ecall`: candidate row 47, format I. -/
def execEcall (rd rs1 : Reg) (s : State) : Result :=
  recognise (packI 0b1110011#7 0b000#3 rd rs1 0#12) s

/-- `ebreak`: candidate row 48, format I. -/
def execEbreak (rd rs1 : Reg) (s : State) : Result :=
  recognise (packI 0b1110011#7 0b000#3 rd rs1 1#12) s

/-- `csrrw`: candidate row 49, format I. -/
def execCsrrw (rd rs1 : Reg) (csr : BitVec 12) (s : State) : Result :=
  recognise (packI 0b1110011#7 0b001#3 rd rs1 csr) s

/-- `csrrs`: candidate row 50, format I. -/
def execCsrrs (rd rs1 : Reg) (csr : BitVec 12) (s : State) : Result :=
  recognise (packI 0b1110011#7 0b010#3 rd rs1 csr) s

/-- `csrrc`: candidate row 51, format I. -/
def execCsrrc (rd rs1 : Reg) (csr : BitVec 12) (s : State) : Result :=
  recognise (packI 0b1110011#7 0b011#3 rd rs1 csr) s

/-- `csrrwi`: candidate row 52, format I. -/
def execCsrrwi (rd : Reg) (zimm : BitVec 5) (csr : BitVec 12) (s : State) : Result :=
  recognise (packI 0b1110011#7 0b101#3 rd zimm csr) s

/-- `csrrsi`: candidate row 53, format I. -/
def execCsrrsi (rd : Reg) (zimm : BitVec 5) (csr : BitVec 12) (s : State) : Result :=
  recognise (packI 0b1110011#7 0b110#3 rd zimm csr) s

/-- `csrrci`: candidate row 54, format I. -/
def execCsrrci (rd : Reg) (zimm : BitVec 5) (csr : BitVec 12) (s : State) : Result :=
  recognise (packI 0b1110011#7 0b111#3 rd zimm csr) s

end Sys2Proof.Machine
end

