-- ==== Sys2Proof/Machine/SubUnits.lean ====
section
/-!
DEFINITION. The three sub-units evaluated on their own. No `op` value selects them (spec/30_encoding.md R63):
in the block they are wired into the format operations. A sub-unit instance gives a word or a fault, so
its evaluation here answers a state that shows the word, or a fault (DESIGN CHOICE, assumption log 4).
-/

namespace Sys2Proof.Machine

/-- R122: MERGE. A table that fails its check gives no word (R126). -/
def execMerge (specs : List BitFieldSpec) (s : State) : Result := finishSub s (merge specs)

/-- R129, R130: EXTRACT. -/
def execExtract (w : Word) (r : BitRange) (s : State) : Result := finishSub s (extract w r)

/-- R140, R141: SEXT. -/
def execSext (k : Nat) (v : Word) (s : State) : Result := finishSub s (sext k v)

end Sys2Proof.Machine
end

