-- ==== Sys2Proof/Machine/TopDecode.lean ====
section
/-!
DEFINITION. The top-level DECODE and the reserved `op` values.
-/

namespace Sys2Proof.Machine

/-- R195: DECODE of the selected word. -/
def execDecode (s : State) : Result := recognise s.inp.selected s

/-- R62: `op = 0110` is reserved. No other input is read. -/
def execReserved0110 (_ : State) : Result := .fault .reservedOp

/-- R62: `op = 0111` is reserved. No other input is read. -/
def execReserved0111 (_ : State) : Result := .fault .reservedOp

/-- R62: `op = 1111` is reserved. No other input is read. -/
def execReserved1111 (_ : State) : Result := .fault .reservedOp

end Sys2Proof.Machine
end

