-- ==== Sys2Proof/Machine/Step.lean ====
section
/-!
DEFINITION. One step is one evaluation: the operation that `op` selects, on the inputs presented
(spec/30_encoding.md R60, spec/10_state.md R20). The block fetches nothing and has no program counter (R31, R50).
-/

namespace Sys2Proof.Machine

/-- One evaluation of the block. -/
def step (s : State) : Host.Outcome State Fault Refusal := exec s.fetch s

/-- The state with this table word presented where the next evaluation takes it. -/
def State.withFetchWord (s : State) (nbits w : Nat) : State := { s with inp := s.inp.present nbits w }

end Sys2Proof.Machine
end

