-- ==== Sys2Proof/Machine/Boundary.lean ====
section
/-!
DEFINITION. The boundary upstream of the block: the narrow-integer types whose values reach the encoder
ports, their conversions, rounding and negation, and the parsing of a fence mask
(spec/40_operand_domains.md R100 to R113). The block itself does none of this (R109, R110); the domains are the
contract of its ports (R114). Values are integers here and become bit patterns only at the ports.
-/

namespace Sys2Proof.Machine

/-- R101 to R107, R110: the types of the numbers that reach the block. -/
inductive NarrowType where
  | register
  | uimm5
  | imm12
  | csr
  | bImm
  | jImm
  | fenceMask
deriving DecidableEq, Repr

namespace NarrowType

/-- The bit width W. -/
def width : NarrowType → Nat
  | register => 5
  | uimm5 => 5
  | imm12 => 12
  | csr => 12
  | bImm => 13
  | jImm => 21
  | fenceMask => 4

/-- Whether the type is signed. -/
def signed : NarrowType → Bool
  | register => false
  | uimm5 => false
  | imm12 => true
  | csr => false
  | bImm => true
  | jImm => true
  | fenceMask => false

/-- R105, R107: whether only even values are stored. -/
def even : NarrowType → Bool
  | register => false
  | uimm5 => false
  | imm12 => false
  | csr => false
  | bImm => true
  | jImm => true
  | fenceMask => false

/-- The least value of the acceptance set. -/
def least (t : NarrowType) : Int := if t.signed then -(2 ^ (t.width - 1)) else 0

/-- The greatest value of the acceptance set. -/
def greatest (t : NarrowType) : Int :=
  if t.signed then 2 ^ (t.width - 1) - 1 else 2 ^ t.width - 1

/-- R102 to R107: the acceptance set, judged by bit count (R100). -/
def accepts (t : NarrowType) (v : Int) : Bool := decide (t.least ≤ v) && decide (v ≤ t.greatest)

/-- R106: an accepted value as it is stored. For the even types bit 0 is cleared, which takes an odd
value down by one. -/
def store (t : NarrowType) (v : Int) : Int := if t.even then v - v % 2 else v

/-- R100, R105, R107: the values the type holds. -/
def legal (t : NarrowType) (v : Int) : Bool := t.accepts v && (!t.even || v % 2 == 0)

/-- MIN (R102 to R107). -/
def min (t : NarrowType) : Int := t.least

/-- MAX (R102 to R107): the greatest value stored. -/
def max (t : NarrowType) : Int := t.store t.greatest

/-- R109: negation of a signed narrow integer. The most negative value has no positive counterpart
and is unchanged. -/
def neg (t : NarrowType) (v : Int) : Int := if v = t.min then v else -v

/-- R113: the value's bit pattern masked to its width. -/
def pattern (t : NarrowType) (v : Int) : Word := BitVec.ofInt 32 v &&& mask t.width

/-- R103 to R107: how a value is carried on the 32-bit `in_imm`: sign-extended for the signed types,
zero-extended for the others. -/
def port (t : NarrowType) (v : Int) : Word :=
  if t.signed then ((t.pattern v).extractLsb' 0 t.width).signExtend 32 else t.pattern v

end NarrowType

/-- The native integer types of the conversions (R111, R112). -/
inductive NativeType where
  | i8
  | i16
  | i32
  | i64
  | u8
  | u16
  | u32
  | u64
deriving DecidableEq, Repr

namespace NativeType

/-- The native width in bits. -/
def width : NativeType → Nat
  | i8 => 8
  | i16 => 16
  | i32 => 32
  | i64 => 64
  | u8 => 8
  | u16 => 16
  | u32 => 32
  | u64 => 64

/-- Whether the type is signed. -/
def signed : NativeType → Bool
  | i8 => true
  | i16 => true
  | i32 => true
  | i64 => true
  | u8 => false
  | u16 => false
  | u32 => false
  | u64 => false

/-- The type's own range. -/
def holds (n : NativeType) (v : Int) : Bool :=
  if n.signed then decide (-(2 ^ (n.width - 1)) ≤ v) && decide (v ≤ 2 ^ (n.width - 1) - 1)
  else decide (0 ≤ v) && decide (v ≤ 2 ^ n.width - 1)

end NativeType

/-- One hexadecimal digit. -/
def hexDigit (d : Nat) : Char :=
  if d < 10 then Char.ofNat ('0'.toNat + d) else Char.ofNat ('a'.toNat + (d - 10))

/-- The `count` low hexadecimal digits of a number, most significant first. -/
def hexDigits : Nat → Nat → List Char
  | 0, _ => []
  | count + 1, n => hexDigits count (n / 16) ++ [hexDigit (n % 16)]

/-- R111: zero-padded hex of the native width, a negative value as its two's-complement pattern. The
digits above 9 are written in lower case (DESIGN CHOICE, assumption log 13). -/
def hexOf (n : NativeType) (v : Int) : List Char :=
  '0' :: 'x' :: hexDigits (n.width / 4) (v % 2 ^ n.width).toNat

/-- R111: what a failed conversion carries. -/
structure ConversionError where
  value : Int
  nativeWidth : Nat
  hex : List Char
deriving DecidableEq, Repr

/-- R111: a fallible conversion into a narrow integer. An accepted value is rounded (R106), a value that
does not fit is an error that carries it. -/
def convert (t : NarrowType) (n : NativeType) (v : Int) : Except ConversionError Int :=
  if t.accepts v then .ok (t.store v) else .error ⟨v, n.width, hexOf n v⟩

/-- R112: the conversions that are infallible, because by bit count every value of the native type fits:
an unsigned value needs one bit more in a signed type, and a negative one fits no unsigned type
(DEDUCED, assumption log 8). -/
def infallible (t : NarrowType) (n : NativeType) : Bool :=
  if n.signed then t.signed && decide (n.width ≤ t.width)
  else if t.signed then decide (n.width + 1 ≤ t.width)
  else decide (n.width ≤ t.width)

/-- R112: an infallible conversion into a narrow integer; an odd value is still rounded (R106). -/
def construct (t : NarrowType) (v : Int) : Int := t.store v

/-- R112: conversion out of a narrow integer, checked against the native type's range. It is lossless
for every native type wide enough. What a conversion out carries when it fails the spec does not say
(R111 gives its error only for conversions into a narrow integer): here it carries nothing (DESIGN
CHOICE, assumption log 15). -/
def convertOut (n : NativeType) (v : Int) : Option Int := if n.holds v then some v else none

/-! ### Fence masks -/

/-- R110: the bit of a flag: bit 3 = i, bit 2 = o, bit 1 = r, bit 0 = w (PRESUMED, assumption log 10). None for a character outside
the alphabet. -/
def fenceFlag : Char → Option (BitVec 4)
  | 'i' => some 0b1000#4
  | 'o' => some 0b0100#4
  | 'r' => some 0b0010#4
  | 'w' => some 0b0001#4
  | _ => none

/-- R110: why a string is no fence mask: the character and its position, counted from 0. -/
inductive FenceError where
  | invalidFlag (flag : Char) (position : Nat)
  | duplicateFlag (flag : Char) (position : Nat)
deriving DecidableEq, Repr

/-- R110: the scan from left to right, `at` being the position of the next character and `seen` the
flags given so far. The first offending character ends it. -/
def parseFenceFrom (position : Nat) (seen : BitVec 4) : List Char → Except FenceError (BitVec 4)
  | [] => .ok seen
  | c :: rest =>
    match fenceFlag c with
    | none => .error (.invalidFlag c position)
    | some bit =>
      if seen &&& bit ≠ 0#4 then .error (.duplicateFlag c position)
      else parseFenceFrom (position + 1) (seen ||| bit) rest

/-- R110: a fence mask from a string, given as its characters (DESIGN CHOICE, assumption log 13). -/
def parseFence (flags : List Char) : Except FenceError (BitVec 4) := parseFenceFrom 0 0#4 flags

end Sys2Proof.Machine
end

