-- ==== Sys2Proof/Machine/Block.lean ====
section
/-!
DEFINITION. The block as a whole: building one (spec/70_reset_and_hazards.md R241), its outputs as one function of
its inputs (spec/10_state.md R20, R23), and the caller's two moves, presenting inputs and feeding decoded
fields back to an encoder (spec/60_exceptions.md R226; spec/44_format_decoders.md R178).
-/

namespace Sys2Proof.Machine

/-- R241 item 1: every MERGE table of the block passes. The ranges are constants, so the check of a
table is the same on every input; it is made on inputs 0. -/
def mergeInstancesOk : Bool :=
  [tableR .zero, tableI .zero, tableS .zero, tableB .zero, tableU .zero, tableJ .zero,
    immTableS 0, immTableB 0, immTableU 0, immTableJ 0].all fun table => passes (merge table)

/-- R241 item 1: every EXTRACT range of the block passes. -/
def extractInstancesOk : Bool :=
  [rng 0 7, rng 7 12, rng 12 15, rng 15 20, rng 20 25, rng 25 32, rng 20 32].all BitRange.ok

/-- R241 item 2, R143: every SEXT width of the block passes: 12 for I and S, 13 for B, 21 for J. -/
def sextInstancesOk : Bool := [12, 12, 13, 21].all fun k => passes (sext k 0)

/-- R241: what the builder establishes, in its order, before the block's rules hold. -/
def build (rows : List Row) : Result :=
  if mergeInstancesOk && extractInstancesOk && sextInstancesOk then
    if h : dispatchWf rows = true then .next (State.powerUp ⟨rows, h⟩)
    else .refused .illFormedDispatch
  else .refused .wrongInstance

/-- The caller presents these inputs (R226). -/
def State.present (s : State) (i : Inputs) : State := { s with inp := i }

/-- The outputs an evaluation drives (R212 for a fault). An evaluation that a wrong instance ends has
none: no block is built from it (R213). -/
def outputsOf : Result → Option Outputs
  | .next t => some t.out
  | .fault .reservedOp => some reservedOutputs
  | .fault .wrongTable => none
  | .fault .sextWidth => none
  | .refused _ => none

/-- R20: `CORE : Inputs -> Outputs`, for a block built with `d`. -/
def coreOutputs (d : Dispatch) (i : Inputs) : Option Outputs :=
  outputsOf (step ((State.powerUp d).present i))

/-- The `op` value of `ENC_f` (R60). -/
def encodeSelect (f : Fmt) : BitVec 4 := 0#1 ++ f.code

/-- The `op` value of `DEC_f` (R60). -/
def decodeSelect (f : Fmt) : BitVec 4 := 1#1 ++ f.code

/-- R178: the decoded outputs as an encoder's inputs, with `in_imm = out_imm`. -/
def feedBack (f : Fmt) (o : Outputs) : Inputs :=
  { Inputs.zero with
    op := encodeSelect f
    opcode := o.opcode
    rd := o.rd
    rs1 := o.rs1
    rs2 := o.rs2
    funct3 := o.funct3
    funct7 := o.funct7
    imm := o.imm }

/-- R178: a word presented to a decoder. -/
def decodeInputs (f : Fmt) (w : Word) : Inputs :=
  { Inputs.zero with op := decodeSelect f, word := w }

end Sys2Proof.Machine
end

