-- ==== Sys2Proof/Safety.lean ====
section
/-!
DEFINITION. What counts as a safe evaluation, in the terms the statements use: what the caller owes
(spec/60_exceptions.md R226), and what the block's outputs look like after an evaluation.
-/

namespace Sys2Proof.Machine

/-- R62: the reserved `op` values. -/
def reservedOp (op : BitVec 4) : Bool := op == 0b0110#4 || op == 0b0111#4 || op == 0b1111#4

/-- R60, R61: the format an encode operation packs, none for the other operations. -/
def encodeFormat (op : BitVec 4) : Option Fmt :=
  match op.toNat with
  | 0 => some .R
  | 1 => some .I
  | 2 => some .S
  | 3 => some .B
  | 4 => some .U
  | 5 => some .J
  | _ => none

/-- R60, R61: the format a format decoder unpacks, none for the other operations. -/
def decodeFormat (op : BitVec 4) : Option Fmt :=
  match op.toNat with
  | 8 => some .R
  | 9 => some .I
  | 10 => some .S
  | 11 => some .B
  | 12 => some .U
  | 13 => some .J
  | _ => none

/-- R226: the caller validates an immediate before encoding, gives a format decoder only a word that
`DISPATCH` classifies as that format, and never relies on a reserved `op`. -/
def CallerDuties (s : State) : Prop :=
  reservedOp s.inp.op = false
    ∧ (∀ f, encodeFormat s.inp.op = some f → immOk f s.inp.imm = true)
    ∧ ∀ f, decodeFormat s.inp.op = some f →
        ∃ row ∈ s.dispatch.rows, row.fmt = f ∧ row.matchesWord s.inp.selected = true

/-- R20, R36: the outputs are those of the current inputs. -/
def Settled (s : State) : Prop := coreOutputs s.dispatch s.inp = some s.out

/-- What every evaluation's outputs satisfy, whatever the operation: the byte lanes are the word's (R41),
no fault is reported beside a result (R212), the format code names a format (R61), kind 7 is never
driven, and a decode error drives nothing else (R197). -/
def OutputsLegal (o : Outputs) : Prop :=
  o.byte0 = o.word.extractLsb' 0 8 ∧ o.byte1 = o.word.extractLsb' 8 8
    ∧ o.byte2 = o.word.extractLsb' 16 8 ∧ o.byte3 = o.word.extractLsb' 24 8
    ∧ o.fault = 0 ∧ o.fmt ≤ 5 ∧ o.derrKind ≠ 7 ∧ (o.derrKind = 0 → o.derrBits = 0)
    ∧ (o.derrKind ≠ 0 →
        o = { Outputs.zero with derrKind := o.derrKind, derrBits := o.derrBits })

/-! ### Outputs written out, for statements of results -/

/-- The outputs of a format R word, fields written out (R171). -/
def fieldsR (mnem : BitVec 8) (opcode : BitVec 7) (rd : Reg) (funct3 : BitVec 3) (rs1 rs2 : Reg)
    (funct7 : BitVec 7) : Outputs :=
  { Outputs.zero with
    mnem := mnem, fmt := 0#3, opcode := opcode, rd := rd, funct3 := funct3, rs1 := rs1, rs2 := rs2
    funct7 := funct7 }

/-- The outputs of a format I word, fields written out (R172). -/
def fieldsI (mnem : BitVec 8) (opcode : BitVec 7) (rd : Reg) (funct3 : BitVec 3) (rs1 : Reg)
    (imm : Word) : Outputs :=
  { Outputs.zero with
    mnem := mnem, fmt := 1#3, opcode := opcode, rd := rd, funct3 := funct3, rs1 := rs1, imm := imm }

/-- The outputs of a format S word, fields written out (R173). -/
def fieldsS (mnem : BitVec 8) (opcode : BitVec 7) (funct3 : BitVec 3) (rs1 rs2 : Reg)
    (imm : Word) : Outputs :=
  { Outputs.zero with
    mnem := mnem, fmt := 2#3, opcode := opcode, funct3 := funct3, rs1 := rs1, rs2 := rs2, imm := imm }

/-- The outputs of a format B word, fields written out (R174). -/
def fieldsB (mnem : BitVec 8) (opcode : BitVec 7) (funct3 : BitVec 3) (rs1 rs2 : Reg)
    (imm : Word) : Outputs :=
  { Outputs.zero with
    mnem := mnem, fmt := 3#3, opcode := opcode, funct3 := funct3, rs1 := rs1, rs2 := rs2, imm := imm }

/-- The outputs of a format U word, fields written out (R175). -/
def fieldsU (mnem : BitVec 8) (opcode : BitVec 7) (rd : Reg) (imm : Word) : Outputs :=
  { Outputs.zero with mnem := mnem, fmt := 4#3, opcode := opcode, rd := rd, imm := imm }

/-- The outputs of a format J word, fields written out (R176). -/
def fieldsJ (mnem : BitVec 8) (opcode : BitVec 7) (rd : Reg) (imm : Word) : Outputs :=
  { Outputs.zero with mnem := mnem, fmt := 5#3, opcode := opcode, rd := rd, imm := imm }

/-- The outputs of an encoded word, lanes written out (R41, R150). -/
def encodedWord (w : Word) : Outputs :=
  { Outputs.zero with
    word := w, byte0 := w.extractLsb' 0 8, byte1 := w.extractLsb' 8 8, byte2 := w.extractLsb' 16 8
    byte3 := w.extractLsb' 24 8 }

/-- The outputs of a decode error, written out (R197). -/
def derrOutputs (kind : BitVec 3) (bits : BitVec 12) : Outputs :=
  { Outputs.zero with derrKind := kind, derrBits := bits }

/-- R197: the kind code of a sub-field error. -/
def subKindCode : SubKind → BitVec 3
  | .funct7 => 3#3
  | .fenceMode => 4#3
  | .shiftMode => 5#3
  | .funct12 => 6#3

/-! ### What an operation reads and drives -/

/-- R60's "reads" column: the inputs with every signal the selected operation does not read put to 0.
Which lanes a decode reads is R42's. -/
def readInputs (i : Inputs) : Inputs :=
  match i.op.toNat with
  | 0 => { Inputs.zero with
      op := i.op, opcode := i.opcode, rd := i.rd, funct3 := i.funct3, rs1 := i.rs1, rs2 := i.rs2
      funct7 := i.funct7 }
  | 1 => { Inputs.zero with
      op := i.op, opcode := i.opcode, rd := i.rd, funct3 := i.funct3, rs1 := i.rs1, imm := i.imm }
  | 2 => { Inputs.zero with
      op := i.op, opcode := i.opcode, funct3 := i.funct3, rs1 := i.rs1, rs2 := i.rs2, imm := i.imm }
  | 3 => { Inputs.zero with
      op := i.op, opcode := i.opcode, funct3 := i.funct3, rs1 := i.rs1, rs2 := i.rs2, imm := i.imm }
  | 4 => { Inputs.zero with op := i.op, opcode := i.opcode, rd := i.rd, imm := i.imm }
  | 5 => { Inputs.zero with op := i.op, opcode := i.opcode, rd := i.rd, imm := i.imm }
  | 6 => { Inputs.zero with op := i.op }
  | 7 => { Inputs.zero with op := i.op }
  | 15 => { Inputs.zero with op := i.op }
  | _ =>
    if i.bytesSel = 1#1 then
      { Inputs.zero with
        op := i.op, bytesSel := 1#1, byte0 := i.byte0, byte1 := i.byte1, byte2 := i.byte2
        byte3 := i.byte3 }
    else { Inputs.zero with op := i.op, word := i.word }

/-- R60's "drives" column: the outputs with every signal the operation does not drive put to 0. -/
def drivenOutputs (op : BitVec 4) (o : Outputs) : Outputs :=
  match op.toNat with
  | 0 | 1 | 2 | 3 | 4 | 5 => { Outputs.zero with
      word := o.word, byte0 := o.byte0, byte1 := o.byte1, byte2 := o.byte2, byte3 := o.byte3 }
  | 6 | 7 | 15 => { Outputs.zero with fault := o.fault }
  | 8 => fieldsR 0 o.opcode o.rd o.funct3 o.rs1 o.rs2 o.funct7
  | 9 => fieldsI 0 o.opcode o.rd o.funct3 o.rs1 o.imm
  | 10 => fieldsS 0 o.opcode o.funct3 o.rs1 o.rs2 o.imm
  | 11 => fieldsB 0 o.opcode o.funct3 o.rs1 o.rs2 o.imm
  | 12 => fieldsU 0 o.opcode o.rd o.imm
  | 13 => fieldsJ 0 o.opcode o.rd o.imm
  | _ =>
    if o.derrKind = 0 then
      match o.fmt.toNat with
      | 0 => fieldsR o.mnem o.opcode o.rd o.funct3 o.rs1 o.rs2 o.funct7
      | 1 => fieldsI o.mnem o.opcode o.rd o.funct3 o.rs1 o.imm
      | 2 => fieldsS o.mnem o.opcode o.funct3 o.rs1 o.rs2 o.imm
      | 3 => fieldsB o.mnem o.opcode o.funct3 o.rs1 o.rs2 o.imm
      | 4 => fieldsU o.mnem o.opcode o.rd o.imm
      | _ => fieldsJ o.mnem o.opcode o.rd o.imm
    else derrOutputs o.derrKind o.derrBits

/-! ### The merge engine -/

/-- R127: a MERGE table whose every spec passes the checks of R123 to R125: equal lengths, both ranges
well formed, and no two specs writing one destination bit. -/
def GoodTable (specs : List BitFieldSpec) : Prop :=
  (∀ sp ∈ specs, sp.dst.len = sp.src.len ∧ sp.dst.ok = true ∧ sp.src.ok = true)
    ∧ specs.Pairwise fun a b => a.dst.stop ≤ b.dst.start ∨ b.dst.stop ≤ a.dst.start

/-- The invariant of a built block that every evaluation keeps. -/
def Inv (s : State) : Prop := Settled s ∧ OutputsLegal s.out

end Sys2Proof.Machine
end

