-- ==== Sys2Proof/Certificates/Slice0/Obligations.lean ====
section
/-!
DEFINITION. The statements for the provers. Words are numbered from bit 0; `w.extractLsb' a n` is the
slice of n bits from bit a up, that is `w[a+n-1 : a]`. A result statement is an equation on the whole next
state, so it is its own frame: the inputs, the parameter, the sub-unit result and every output not
named are as before (outputs not named: 0). Statements quantify over every state, so over every
`DISPATCH`; those about the informative candidate (assumption log 1) say so in a hypothesis.
-/

open Sys2Proof Sys2Proof.Machine

/-! ### Selection, decoding and encoding -/

/-- R60: the operation each `op` value selects is the one a step runs. -/
def Obligations.StepRunsTheSelectedOperation : Prop :=
  ∀ s : State,
    (s.inp.op = 0b0000#4 → step s = exec .encR s) ∧ (s.inp.op = 0b0001#4 → step s = exec .encI s)
    ∧ (s.inp.op = 0b0010#4 → step s = exec .encS s) ∧ (s.inp.op = 0b0011#4 → step s = exec .encB s)
    ∧ (s.inp.op = 0b0100#4 → step s = exec .encU s) ∧ (s.inp.op = 0b0101#4 → step s = exec .encJ s)
    ∧ (s.inp.op = 0b0110#4 → step s = exec .reserved0110 s)
    ∧ (s.inp.op = 0b0111#4 → step s = exec .reserved0111 s)
    ∧ (s.inp.op = 0b1000#4 → step s = exec .decR s) ∧ (s.inp.op = 0b1001#4 → step s = exec .decI s)
    ∧ (s.inp.op = 0b1010#4 → step s = exec .decS s) ∧ (s.inp.op = 0b1011#4 → step s = exec .decB s)
    ∧ (s.inp.op = 0b1100#4 → step s = exec .decU s) ∧ (s.inp.op = 0b1101#4 → step s = exec .decJ s)
    ∧ (s.inp.op = 0b1110#4 → step s = exec .decode s)
    ∧ (s.inp.op = 0b1111#4 → step s = exec .reserved1111 s)

/-- When the bytes of the selected word decode to a mnemonic and `op` is DECODE, a step is that
mnemonic's meaning, whatever `DISPATCH` the block has. That a mnemonic means DECODE of its word is the
model's reading (DEDUCED, assumption log 11). -/
def Obligations.StepRunsTheRecognisedWord : Prop :=
  ∀ (s : State) (i : Instr), s.inp.op = 0b1110#4 →
    decode (bytesOfWord s.inp.selected) = .ok i → step s = exec i s

/-- A table word presented to the block is the instruction the next step runs. How a table word is presented is
the model's choice (DESIGN CHOICE, assumption log 7). -/
def Obligations.StepRunsThePresentedTableWord : Prop :=
  ∀ (s : State) (nbits w : Nat) (i : Instr), decodeTableWord nbits w = some i →
    step (s.withFetchWord nbits w) = exec i (s.withFetchWord nbits w)

/-- Words of spec/95_test_vectors.md sections 2.5 and 2.8, and three CSR words with a 5-bit immediate in the
rs1 position (30_encoding.md section 6), decode to the instructions they stand for. The constants are the
candidate's (PRESUMED, assumption log 1). -/
def Obligations.SampleWordsDecode : Prop :=
  decode [0x0D#8] = .ok .decJ ∧ decode [0x05#8] = .ok .encJ
    ∧ decodeWord 0x123450B7#32 = .ok (.lui 1#5 0x12345000#32)
    ∧ decodeWord 0x800000EF#32 = .ok (.jal 1#5 0x100000#21)
    ∧ decodeWord 0xFE209FE3#32 = .ok (.bne 1#5 2#5 0x1FFE#13)
    ∧ decodeWord 0xFFC12503#32 = .ok (.lw 10#5 2#5 0xFFC#12)
    ∧ decodeWord 0xFEA12E23#32 = .ok (.sw 2#5 10#5 0xFFC#12)
    ∧ decodeWord 0x7FFF8F13#32 = .ok (.addi 30#5 31#5 0x7FF#12)
    ∧ decodeWord 0x41F0D093#32 = .ok (.srai 1#5 1#5 31#5)
    ∧ decodeWord 0x407302B3#32 = .ok (.sub 5#5 6#5 7#5)
    ∧ decodeWord 0x02C5D533#32 = .ok (.divu 10#5 11#5 12#5)
    ∧ decodeWord 0x8330000F#32 = .ok (.fenceTso 0#5 0#5 3#4 3#4)
    ∧ decodeWord 0x00100073#32 = .ok (.ebreak 0#5 0#5)
    ∧ decodeWord 0xC00312F3#32 = .ok (.csrrw 5#5 6#5 0xC00#12)
    ∧ decodeWord 0x3408D3F3#32 = .ok (.csrrwi 7#5 17#5 0x340#12)
    ∧ decodeWord 0x3408E3F3#32 = .ok (.csrrsi 7#5 17#5 0x340#12)
    ∧ decodeWord 0x3408F3F3#32 = .ok (.csrrci 7#5 17#5 0x340#12)

/-- Decode and encode agree: the bytes of every well-formed instruction that has an encoding decode to
that instruction, with every operand at every value its encoding admits. -/
def Obligations.DecodeOfEncode : Prop :=
  ∀ (i : Instr) (bs : List Byte), i.wellFormed = true → encode i = some bs → decode bs = .ok i

/-- The other direction: bytes the decoder reads as an instruction are that instruction's one encoding,
and the instruction is well formed. -/
def Obligations.EncodeOfDecode : Prop :=
  ∀ (bs : List Byte) (i : Instr), decode bs = .ok i → i.wellFormed = true ∧ encode i = some bs

/-! ### Building the block, and the block as a whole -/

/-- R190, R191: the builder takes exactly the well-formed tables and refuses every other. `RowCount` and the
clause of `WF1` that a value fits its range are R190's (assumption log 12); the builder and its refusal
are the model's form of R191 (DEDUCED, assumption log 2); that the inputs of `State.powerUp` are 0 is the
model's choice (DESIGN CHOICE, assumption log 3). -/
def Obligations.BuildTakesExactlyWellFormedTables : Prop :=
  ∀ rows : List Row,
    ((RowCount rows ∧ WF1 rows ∧ WF2 rows ∧ WF3 rows ∧ WF4 rows) →
        ∃ d : Dispatch, d.rows = rows ∧ build rows = .next (State.powerUp d))
    ∧ (¬ (RowCount rows ∧ WF1 rows ∧ WF2 rows ∧ WF3 rows ∧ WF4 rows) →
        build rows = .refused .illFormedDispatch)

/-- R127, R241: every MERGE table of the block passes its checks on every input, every decoder's immediate
table on every word, every EXTRACT range and every SEXT width. -/
def Obligations.BuiltInstancesPass : Prop :=
  (∀ i : Inputs,
    passes (merge (tableR i)) = true ∧ passes (merge (tableI i)) = true
    ∧ passes (merge (tableS i)) = true ∧ passes (merge (tableB i)) = true
    ∧ passes (merge (tableU i)) = true ∧ passes (merge (tableJ i)) = true)
  ∧ (∀ w : Word,
    passes (merge (immTableS w)) = true ∧ passes (merge (immTableB w)) = true
    ∧ passes (merge (immTableU w)) = true ∧ passes (merge (immTableJ w)) = true)
  ∧ extractInstancesOk = true ∧ sextInstancesOk = true

/-- The state after power-up satisfies the invariant, with any `DISPATCH`: the outputs equal CORE of the
inputs from the start (R36). That the inputs are 0 there is the model's choice (assumption log 3). -/
def Obligations.PowerUpSatisfiesTheInvariant : Prop :=
  (∀ d : Dispatch, Inv (State.powerUp d)) ∧ Inv State.reset

/-- From every state, whatever its outputs, and after the caller presents any inputs, an evaluation that answers
gives a state of the invariant: the outputs are CORE of those inputs, the byte lanes are the word's, the
format code is legal, and an error drives nothing else. No premise asks the invariant of `s`. -/
def Obligations.StepKeepsTheInvariant : Prop :=
  ∀ (s : State) (i : Inputs) (t : State), step (s.present i) = .next t →
    Inv t ∧ t.inp = i ∧ t.dispatch = s.dispatch

/-- R20, R23: the outputs are a total function of the parameter and the inputs; what stood on the
outputs before has no part in it, and evaluating twice is evaluating once (R45). -/
def Obligations.OutputsAreAFunctionOfTheInputs : Prop :=
  (∀ s s' : State, s.dispatch = s'.dispatch → s.inp = s'.inp →
    ∃ o, outputsOf (step s) = some o ∧ outputsOf (step s') = some o)
  ∧ ∀ s t : State, step s = .next t → step t = .next t

/-- R24: inputs that an operation does not read (R60's "reads" column) have no effect on its outputs. -/
def Obligations.UnreadInputsHaveNoEffect : Prop :=
  ∀ (s : State) (i : Inputs), readInputs i = readInputs s.inp →
    outputsOf (step (s.present i)) = outputsOf (step s)

/-- R23: every output an operation does not drive (R60's "drives" column) is 0. -/
def Obligations.UndrivenOutputsAreZero : Prop :=
  ∀ (s : State) (o : Outputs), outputsOf (step s) = some o → o = drivenOutputs s.inp.op o

/-- R213, R214, R215: a built block faults exactly on the reserved `op` values, and only with ReservedOp;
every other evaluation answers a next state and reports no fault, and only DECODE reports a decode
error. -/
def Obligations.OnlyReservedOpsFault : Prop :=
  ∀ s : State,
    (reservedOp s.inp.op = true → step s = .fault .reservedOp)
    ∧ (reservedOp s.inp.op = false → ∃ t, step s = .next t ∧ t.out.fault = 0#3
        ∧ (t.out.derrKind ≠ 0#3 → s.inp.op = 0b1110#4))

/-- What an instruction leaves alone: no instruction changes the inputs or the parameter, the sub-units
change only the sub-unit result, and every other instruction changes only the outputs. The sub-unit
result is the model's own field (DESIGN CHOICE, assumption log 4). -/
def Obligations.ExecFrame : Prop :=
  ∀ (i : Instr) (s t : State), exec i s = .next t →
    t.inp = s.inp ∧ t.dispatch = s.dispatch
    ∧ match i with
      | .merge _ => t.out = s.out
      | .extract _ _ => t.out = s.out
      | .sext _ _ => t.out = s.out
      | _ => t.subOut = s.subOut

/-- R62: a reserved `op` is a fault, on every input. -/
def Obligations.ReservedOpsAreFaults : Prop :=
  ∀ s : State,
    exec .reserved0110 s = .fault .reservedOp ∧ exec .reserved0111 s = .fault .reservedOp
    ∧ exec .reserved1111 s = .fault .reservedOp
    ∧ (s.inp.op = 0b0110#4 ∨ s.inp.op = 0b0111#4 ∨ s.inp.op = 0b1111#4 →
        step s = .fault .reservedOp
        ∧ outputsOf (step s) = some { Outputs.zero with fault := 1#3 })

/-! ### The format encoders -/

/-- R151: ENC_R. -/
def Obligations.EncodeRPacksItsFields : Prop :=
  ∀ s : State,
    let w : Word := s.inp.funct7 ++ s.inp.rs2 ++ s.inp.rs1 ++ s.inp.funct3 ++ s.inp.rd ++ s.inp.opcode
    exec .encR s = .next { s with out := encodedWord w }
    ∧ (s.inp.op = 0b0000#4 → step s = .next { s with out := encodedWord w })

/-- R152: ENC_I. -/
def Obligations.EncodeIPacksItsFields : Prop :=
  ∀ s : State,
    let w : Word :=
      s.inp.imm.extractLsb' 0 12 ++ s.inp.rs1 ++ s.inp.funct3 ++ s.inp.rd ++ s.inp.opcode
    exec .encI s = .next { s with out := encodedWord w }
    ∧ (s.inp.op = 0b0001#4 → step s = .next { s with out := encodedWord w })

/-- R153: ENC_S. -/
def Obligations.EncodeSPacksItsFields : Prop :=
  ∀ s : State,
    let w : Word :=
      s.inp.imm.extractLsb' 5 7 ++ s.inp.rs2 ++ s.inp.rs1 ++ s.inp.funct3
        ++ s.inp.imm.extractLsb' 0 5 ++ s.inp.opcode
    exec .encS s = .next { s with out := encodedWord w }
    ∧ (s.inp.op = 0b0010#4 → step s = .next { s with out := encodedWord w })

/-- R154: ENC_B. -/
def Obligations.EncodeBPacksItsFields : Prop :=
  ∀ s : State,
    let w : Word :=
      s.inp.imm.extractLsb' 12 1 ++ s.inp.imm.extractLsb' 5 6 ++ s.inp.rs2 ++ s.inp.rs1
        ++ s.inp.funct3 ++ s.inp.imm.extractLsb' 1 4 ++ s.inp.imm.extractLsb' 11 1 ++ s.inp.opcode
    exec .encB s = .next { s with out := encodedWord w }
    ∧ (s.inp.op = 0b0011#4 → step s = .next { s with out := encodedWord w })

/-- R155: ENC_U. -/
def Obligations.EncodeUPacksItsFields : Prop :=
  ∀ s : State,
    let w : Word := s.inp.imm.extractLsb' 12 20 ++ s.inp.rd ++ s.inp.opcode
    exec .encU s = .next { s with out := encodedWord w }
    ∧ (s.inp.op = 0b0100#4 → step s = .next { s with out := encodedWord w })

/-- R156: ENC_J. -/
def Obligations.EncodeJPacksItsFields : Prop :=
  ∀ s : State,
    let w : Word :=
      s.inp.imm.extractLsb' 20 1 ++ s.inp.imm.extractLsb' 1 10 ++ s.inp.imm.extractLsb' 11 1
        ++ s.inp.imm.extractLsb' 12 8 ++ s.inp.rd ++ s.inp.opcode
    exec .encJ s = .next { s with out := encodedWord w }
    ∧ (s.inp.op = 0b0101#4 → step s = .next { s with out := encodedWord w })

/-! ### The format decoders -/

/-- R171: DEC_R. -/
def Obligations.DecodeRReadsItsFields : Prop :=
  ∀ s : State,
    let w := s.inp.selected
    let o := fieldsR 0#8 (w.extractLsb' 0 7) (w.extractLsb' 7 5) (w.extractLsb' 12 3)
      (w.extractLsb' 15 5) (w.extractLsb' 20 5) (w.extractLsb' 25 7)
    exec .decR s = .next { s with out := o }
    ∧ (s.inp.op = 0b1000#4 → step s = .next { s with out := o })

/-- R172: DEC_I. -/
def Obligations.DecodeIReadsItsFields : Prop :=
  ∀ s : State,
    let w := s.inp.selected
    let o := fieldsI 0#8 (w.extractLsb' 0 7) (w.extractLsb' 7 5) (w.extractLsb' 12 3)
      (w.extractLsb' 15 5) ((w.extractLsb' 20 12).signExtend 32)
    exec .decI s = .next { s with out := o }
    ∧ (s.inp.op = 0b1001#4 → step s = .next { s with out := o })

/-- R173: DEC_S. -/
def Obligations.DecodeSReadsItsFields : Prop :=
  ∀ s : State,
    let w := s.inp.selected
    let o := fieldsS 0#8 (w.extractLsb' 0 7) (w.extractLsb' 12 3) (w.extractLsb' 15 5)
      (w.extractLsb' 20 5) ((w.extractLsb' 25 7 ++ w.extractLsb' 7 5).signExtend 32)
    exec .decS s = .next { s with out := o }
    ∧ (s.inp.op = 0b1010#4 → step s = .next { s with out := o })

/-- R174: DEC_B. -/
def Obligations.DecodeBReadsItsFields : Prop :=
  ∀ s : State,
    let w := s.inp.selected
    let o := fieldsB 0#8 (w.extractLsb' 0 7) (w.extractLsb' 12 3) (w.extractLsb' 15 5)
      (w.extractLsb' 20 5)
      ((w.extractLsb' 31 1 ++ w.extractLsb' 7 1 ++ w.extractLsb' 25 6 ++ w.extractLsb' 8 4
        ++ 0#1).signExtend 32)
    exec .decB s = .next { s with out := o }
    ∧ (s.inp.op = 0b1011#4 → step s = .next { s with out := o })

/-- R175: DEC_U. -/
def Obligations.DecodeUReadsItsFields : Prop :=
  ∀ s : State,
    let w := s.inp.selected
    let o := fieldsU 0#8 (w.extractLsb' 0 7) (w.extractLsb' 7 5) (w.extractLsb' 12 20 ++ 0#12)
    exec .decU s = .next { s with out := o }
    ∧ (s.inp.op = 0b1100#4 → step s = .next { s with out := o })

/-- R176: DEC_J. -/
def Obligations.DecodeJReadsItsFields : Prop :=
  ∀ s : State,
    let w := s.inp.selected
    let o := fieldsJ 0#8 (w.extractLsb' 0 7) (w.extractLsb' 7 5)
      ((w.extractLsb' 31 1 ++ w.extractLsb' 12 8 ++ w.extractLsb' 20 1 ++ w.extractLsb' 21 10
        ++ 0#1).signExtend 32)
    exec .decJ s = .next { s with out := o }
    ∧ (s.inp.op = 0b1101#4 → step s = .next { s with out := o })

/-! ### DECODE -/

/-- R195, R199: a word that a row matches gives that row's index and the fields of its format, those the
format's own decoder gives. -/
def Obligations.DecodeOfAMatchedWord : Prop :=
  ∀ (s : State) (row : Row), row ∈ s.dispatch.rows → row.matchesWord s.inp.selected = true →
    ∃ o, step (s.present { s.inp with op := decodeSelect row.fmt })
          = .next { s with inp := { s.inp with op := decodeSelect row.fmt }, out := o }
      ∧ exec .decode s = .next { s with out := { o with mnem := row.idx } }
      ∧ o.mnem = 0#8 ∧ o.derrKind = 0#3

/-- R195, R197: a word whose opcode is no row's gives kind 1 with `word[6:0]`. -/
def Obligations.DecodeReportsABadOpcode : Prop :=
  ∀ s : State, (∀ row ∈ s.dispatch.rows, row.opcode ≠ s.inp.selected.extractLsb' 0 7) →
    exec .decode s
      = .next { s with out := derrOutputs 1#3 ((s.inp.selected.extractLsb' 0 7).setWidth 12) }

/-- R195, R197, R198: a word whose opcode is some row's but whose funct3 none of those takes gives kind 2
with `word[14:12]`, whatever its other bits are. -/
def Obligations.DecodeReportsABadFunct3 : Prop :=
  ∀ s : State,
    (∃ row ∈ s.dispatch.rows, row.opcode = s.inp.selected.extractLsb' 0 7) →
    (∀ row ∈ s.dispatch.rows, row.opcode = s.inp.selected.extractLsb' 0 7 →
      ∃ f, row.funct3 = some f ∧ f ≠ s.inp.selected.extractLsb' 12 3) →
    exec .decode s
      = .next { s with out := derrOutputs 2#3 ((s.inp.selected.extractLsb' 12 3).setWidth 12) }

/-- R195, R197: a word that no row matches, although a row with a sub-field takes its opcode and
funct3, gives that sub-field's kind and its bits. -/
def Obligations.DecodeReportsABadSubField : Prop :=
  ∀ (s : State) (row : Row) (sub : SubField), row ∈ s.dispatch.rows → row.sub = some sub →
    row.opcode = s.inp.selected.extractLsb' 0 7 →
    (row.funct3 = none ∨ row.funct3 = some (s.inp.selected.extractLsb' 12 3)) →
    (∀ r ∈ s.dispatch.rows, r.matchesWord s.inp.selected = false) →
    let bits : BitVec 12 :=
      BitVec.ofNat 12 (s.inp.selected.toNat / 2 ^ sub.range.start.toNat % 2 ^ sub.range.len.toNat)
    exec .decode s = .next { s with out := derrOutputs (subKindCode sub.kind) bits }

/-- R196, R198: DECODE always answers; it succeeds exactly on the words some row matches, and that row is
the only one. -/
def Obligations.DecodeSucceedsExactlyOnMatchedWords : Prop :=
  ∀ s : State, ∃ t, exec .decode s = .next t
    ∧ (t.out.derrKind = 0#3 ↔ ∃ row ∈ s.dispatch.rows, row.matchesWord s.inp.selected = true)
    ∧ (∀ a ∈ s.dispatch.rows, ∀ b ∈ s.dispatch.rows, a.matchesWord s.inp.selected = true →
        b.matchesWord s.inp.selected = true → a = b)

/-- With the informative candidate (assumption log 1), DECODE rejects exactly the words the model's
decoder rejects, and names the same field. -/
def Obligations.CandidateRejectsWhatTheDecoderRejects : Prop :=
  ∀ s : State, s.dispatch = candidateDispatch →
    let w := s.inp.selected
    ∃ t, exec .decode s = .next t ∧
      match decodeWord w with
      | .ok _ => t.out.derrKind = 0#3
      | .error .length => False
      | .error .opSelect => False
      | .error .opcode => t.out = derrOutputs 1#3 ((w.extractLsb' 0 7).setWidth 12)
      | .error .funct3 => t.out = derrOutputs 2#3 ((w.extractLsb' 12 3).setWidth 12)
      | .error .funct7 => t.out = derrOutputs 3#3 ((w.extractLsb' 25 7).setWidth 12)
      | .error .fenceMode => t.out = derrOutputs 4#3 ((w.extractLsb' 28 4).setWidth 12)
      | .error .shiftMode => t.out = derrOutputs 5#3 ((w.extractLsb' 25 7).setWidth 12)
      | .error .funct12 => t.out = derrOutputs 6#3 (w.extractLsb' 20 12)

/-- R226, R199: under the caller's duties, a format decoder given a classified word drives what DECODE
drives for it, but for the mnemonic index. -/
def Obligations.ClassifiedWordsDecodeAlike : Prop :=
  ∀ (s : State) (f : Fmt), CallerDuties s → decodeFormat s.inp.op = some f →
    ∃ t u, step s = .next t ∧ step (s.present { s.inp with op := 0b1110#4 }) = .next u
      ∧ u.out.derrKind = 0#3 ∧ u.out.fmt = f.code ∧ t.out = { u.out with mnem := 0#8 }

/-! ### The candidate's mnemonics -/

/-- A mnemonic's meaning is DECODE of its word by the block's own `DISPATCH`, and it always answers; the
inputs presented play no part in it. That this is the meaning is the model's reading (DEDUCED, assumption
log 11). -/
def Obligations.MnemonicsAreDecodedByTheBlock : Prop :=
  ∀ (i : Instr) (w : Word) (s : State), encodeWord i = some w →
    ∃ o, exec i s = .next { s with out := o }
      ∧ ∀ inp : Inputs, inp.selected = w →
          exec .decode { s with inp := inp } = .next { s with inp := inp, out := o }

/-- `lui`, `auipc` and `jal` with the candidate (assumption log 1). A U immediate's low 12 bits and a
displacement's bit 0 are not stored in the word. -/
def Obligations.CandidateUpperAndJumpResults : Prop :=
  ∀ (s : State) (rd : Reg), s.dispatch = candidateDispatch →
    (∀ imm : Word,
      exec (.lui rd imm) s = .next { s with out := fieldsU 0#8 0b0110111#7 rd (imm &&& 0xFFFFF000#32) }
      ∧ exec (.auipc rd imm) s
          = .next { s with out := fieldsU 1#8 0b0010111#7 rd (imm &&& 0xFFFFF000#32) })
    ∧ ∀ imm : BitVec 21,
      let stored : Word := (imm &&& 0x1FFFFE#21).signExtend 32
      exec (.jal rd imm) s = .next { s with out := fieldsJ 2#8 0b1101111#7 rd stored }

/-- The branches with the candidate (assumption log 1). Bit 0 of a displacement is not stored. -/
def Obligations.CandidateBranchResults : Prop :=
  ∀ (s : State) (rs1 rs2 : Reg) (imm : BitVec 13), s.dispatch = candidateDispatch →
    let out := fun (idx : BitVec 8) (f3 : BitVec 3) =>
      fieldsB idx 0b1100011#7 f3 rs1 rs2 ((imm &&& 0x1FFE#13).signExtend 32)
    exec (.beq rs1 rs2 imm) s = .next { s with out := out 4#8 0b000#3 }
    ∧ exec (.bne rs1 rs2 imm) s = .next { s with out := out 5#8 0b001#3 }
    ∧ exec (.blt rs1 rs2 imm) s = .next { s with out := out 6#8 0b100#3 }
    ∧ exec (.bge rs1 rs2 imm) s = .next { s with out := out 7#8 0b101#3 }
    ∧ exec (.bltu rs1 rs2 imm) s = .next { s with out := out 8#8 0b110#3 }
    ∧ exec (.bgeu rs1 rs2 imm) s = .next { s with out := out 9#8 0b111#3 }

/-- `jalr` and the loads with the candidate (assumption log 1). -/
def Obligations.CandidateLoadResults : Prop :=
  ∀ (s : State) (rd rs1 : Reg) (imm : BitVec 12), s.dispatch = candidateDispatch →
    let out := fun (idx : BitVec 8) (opcode : BitVec 7) (f3 : BitVec 3) =>
      fieldsI idx opcode rd f3 rs1 (imm.signExtend 32)
    exec (.jalr rd rs1 imm) s = .next { s with out := out 3#8 0b1100111#7 0b000#3 }
    ∧ exec (.lb rd rs1 imm) s = .next { s with out := out 10#8 0b0000011#7 0b000#3 }
    ∧ exec (.lh rd rs1 imm) s = .next { s with out := out 11#8 0b0000011#7 0b001#3 }
    ∧ exec (.lw rd rs1 imm) s = .next { s with out := out 12#8 0b0000011#7 0b010#3 }
    ∧ exec (.lbu rd rs1 imm) s = .next { s with out := out 13#8 0b0000011#7 0b100#3 }
    ∧ exec (.lhu rd rs1 imm) s = .next { s with out := out 14#8 0b0000011#7 0b101#3 }

/-- The stores with the candidate (assumption log 1). -/
def Obligations.CandidateStoreResults : Prop :=
  ∀ (s : State) (rs1 rs2 : Reg) (imm : BitVec 12), s.dispatch = candidateDispatch →
    let out := fun (idx : BitVec 8) (f3 : BitVec 3) =>
      fieldsS idx 0b0100011#7 f3 rs1 rs2 (imm.signExtend 32)
    exec (.sb rs1 rs2 imm) s = .next { s with out := out 15#8 0b000#3 }
    ∧ exec (.sh rs1 rs2 imm) s = .next { s with out := out 16#8 0b001#3 }
    ∧ exec (.sw rs1 rs2 imm) s = .next { s with out := out 17#8 0b010#3 }

/-- The immediate arithmetic with the candidate (assumption log 1); a shift amount rides in rs2 (R75). -/
def Obligations.CandidateImmediateArithmeticResults : Prop :=
  ∀ (s : State) (rd rs1 : Reg), s.dispatch = candidateDispatch →
    (∀ imm : BitVec 12,
      let out := fun (idx : BitVec 8) (f3 : BitVec 3) =>
        fieldsI idx 0b0010011#7 rd f3 rs1 (imm.signExtend 32)
      exec (.addi rd rs1 imm) s = .next { s with out := out 18#8 0b000#3 }
      ∧ exec (.slti rd rs1 imm) s = .next { s with out := out 19#8 0b010#3 }
      ∧ exec (.sltiu rd rs1 imm) s = .next { s with out := out 20#8 0b011#3 }
      ∧ exec (.xori rd rs1 imm) s = .next { s with out := out 21#8 0b100#3 }
      ∧ exec (.ori rd rs1 imm) s = .next { s with out := out 22#8 0b110#3 }
      ∧ exec (.andi rd rs1 imm) s = .next { s with out := out 23#8 0b111#3 })
    ∧ ∀ shamt : BitVec 5,
      let out := fun (idx : BitVec 8) (f3 : BitVec 3) (f7 : BitVec 7) =>
        fieldsR idx 0b0010011#7 rd f3 rs1 shamt f7
      exec (.slli rd rs1 shamt) s = .next { s with out := out 24#8 0b001#3 0b0000000#7 }
      ∧ exec (.srli rd rs1 shamt) s = .next { s with out := out 25#8 0b101#3 0b0000000#7 }
      ∧ exec (.srai rd rs1 shamt) s = .next { s with out := out 26#8 0b101#3 0b0100000#7 }

/-- The register arithmetic with the candidate (assumption log 1). -/
def Obligations.CandidateRegisterArithmeticResults : Prop :=
  ∀ (s : State) (rd rs1 rs2 : Reg), s.dispatch = candidateDispatch →
    let out := fun (idx : BitVec 8) (f3 : BitVec 3) (f7 : BitVec 7) =>
      fieldsR idx 0b0110011#7 rd f3 rs1 rs2 f7
    exec (.add rd rs1 rs2) s = .next { s with out := out 27#8 0b000#3 0b0000000#7 }
    ∧ exec (.sub rd rs1 rs2) s = .next { s with out := out 28#8 0b000#3 0b0100000#7 }
    ∧ exec (.sll rd rs1 rs2) s = .next { s with out := out 29#8 0b001#3 0b0000000#7 }
    ∧ exec (.slt rd rs1 rs2) s = .next { s with out := out 30#8 0b010#3 0b0000000#7 }
    ∧ exec (.sltu rd rs1 rs2) s = .next { s with out := out 31#8 0b011#3 0b0000000#7 }
    ∧ exec (.xor rd rs1 rs2) s = .next { s with out := out 32#8 0b100#3 0b0000000#7 }
    ∧ exec (.srl rd rs1 rs2) s = .next { s with out := out 33#8 0b101#3 0b0000000#7 }
    ∧ exec (.sra rd rs1 rs2) s = .next { s with out := out 34#8 0b101#3 0b0100000#7 }
    ∧ exec (.or rd rs1 rs2) s = .next { s with out := out 35#8 0b110#3 0b0000000#7 }
    ∧ exec (.and rd rs1 rs2) s = .next { s with out := out 36#8 0b111#3 0b0000000#7 }

/-- The M extension's words with the candidate (assumption log 1). They are only decoded. -/
def Obligations.CandidateMultiplyDivideResults : Prop :=
  ∀ (s : State) (rd rs1 rs2 : Reg), s.dispatch = candidateDispatch →
    let out := fun (idx : BitVec 8) (f3 : BitVec 3) =>
      fieldsR idx 0b0110011#7 rd f3 rs1 rs2 0b0000001#7
    exec (.mul rd rs1 rs2) s = .next { s with out := out 37#8 0b000#3 }
    ∧ exec (.mulh rd rs1 rs2) s = .next { s with out := out 38#8 0b001#3 }
    ∧ exec (.mulhsu rd rs1 rs2) s = .next { s with out := out 39#8 0b010#3 }
    ∧ exec (.mulhu rd rs1 rs2) s = .next { s with out := out 40#8 0b011#3 }
    ∧ exec (.div rd rs1 rs2) s = .next { s with out := out 41#8 0b100#3 }
    ∧ exec (.divu rd rs1 rs2) s = .next { s with out := out 42#8 0b101#3 }
    ∧ exec (.rem rd rs1 rs2) s = .next { s with out := out 43#8 0b110#3 }
    ∧ exec (.remu rd rs1 rs2) s = .next { s with out := out 44#8 0b111#3 }

/-- Fences and system calls with the candidate (assumption log 1). Recognising one orders nothing and
traps nowhere (R48, R216). -/
def Obligations.CandidateFenceAndCallResults : Prop :=
  ∀ (s : State) (rd rs1 : Reg), s.dispatch = candidateDispatch →
    (∀ pred succ : BitVec 4,
      let out := fun (idx : BitVec 8) (fm : BitVec 4) =>
        fieldsI idx 0b0001111#7 rd 0b000#3 rs1 ((fm ++ pred ++ succ).signExtend 32)
      exec (.fence rd rs1 pred succ) s = .next { s with out := out 45#8 0b0000#4 }
      ∧ exec (.fenceTso rd rs1 pred succ) s = .next { s with out := out 46#8 0b1000#4 })
    ∧ exec (.ecall rd rs1) s = .next { s with out := fieldsI 47#8 0b1110011#7 rd 0b000#3 rs1 0#32 }
    ∧ exec (.ebreak rd rs1) s = .next { s with out := fieldsI 48#8 0b1110011#7 rd 0b000#3 rs1 1#32 }

/-- The CSR words with the candidate (assumption log 1). The CSR number is `out_imm[11:0]`, the immediate
its sign extension (R75). -/
def Obligations.CandidateCsrResults : Prop :=
  ∀ (s : State) (rd src : Reg) (csr : BitVec 12), s.dispatch = candidateDispatch →
    let out := fun (idx : BitVec 8) (f3 : BitVec 3) =>
      fieldsI idx 0b1110011#7 rd f3 src (csr.signExtend 32)
    exec (.csrrw rd src csr) s = .next { s with out := out 49#8 0b001#3 }
    ∧ exec (.csrrs rd src csr) s = .next { s with out := out 50#8 0b010#3 }
    ∧ exec (.csrrc rd src csr) s = .next { s with out := out 51#8 0b011#3 }
    ∧ exec (.csrrwi rd src csr) s = .next { s with out := out 52#8 0b101#3 }
    ∧ exec (.csrrsi rd src csr) s = .next { s with out := out 53#8 0b110#3 }
    ∧ exec (.csrrci rd src csr) s = .next { s with out := out 54#8 0b111#3 }
    ∧ (csr.signExtend 32).extractLsb' 0 12 = csr

/-! ### The sub-units -/

/-- R122 to R126: MERGE gives a word exactly on a good table, that word being the union of what the specs
place; any other table is the one fault outcome "the instance's table is wrong" (DEDUCED, assumption log
6). That the word stands in `subOut` of a next state is the model's choice (DESIGN CHOICE, assumption log
4). -/
def Obligations.MergeGivesAWordExactlyOnGoodTables : Prop :=
  ∀ (specs : List BitFieldSpec) (s : State),
    let union : Word := specs.foldr (fun sp acc =>
      ((sp.value >>> sp.src.start.toNat) &&& BitVec.ofNat 32 (2 ^ sp.src.len.toNat - 1))
        <<< sp.dst.start.toNat ||| acc) 0#32
    (GoodTable specs → exec (.merge specs) s = .next { s with subOut := union })
    ∧ (¬ GoodTable specs → exec (.merge specs) s = .fault .wrongTable)

/-- R128: the result does not depend on the order of the specs, is the union of what they place, holds each
spec's field at its destination, and is 0 elsewhere. -/
def Obligations.MergeIsOrderFreeAndPlacesEachField : Prop :=
  ∀ (specs : List BitFieldSpec) (w : Word), merge specs = .ok w →
    (∀ specs' : List BitFieldSpec, specs'.Perm specs → merge specs' = .ok w)
    ∧ w = specs.foldr (fun sp acc => fieldOf sp.value sp.src <<< sp.dst.start.toNat ||| acc) 0#32
    ∧ (∀ sp ∈ specs, w &&& sp.dst.mask = fieldOf sp.value sp.src <<< sp.dst.start.toNat)
    ∧ w &&& ~~~(specs.foldr (fun sp acc => sp.dst.mask ||| acc) 0#32) = 0#32

/-- R131: EXTRACT of a spec's destination gives back what EXTRACT of its source gives. -/
def Obligations.ExtractUndoesMerge : Prop :=
  ∀ (specs : List BitFieldSpec) (w : Word), merge specs = .ok w →
    ∀ sp ∈ specs, extract w sp.dst = extract sp.value sp.src

/-- R129, R130: EXTRACT gives the field right-aligned, every bit above it 0; a range that is not
well formed is RangeBounds, which the model folds into the fault `wrongTable` (DEDUCED, assumption log 6).
That the field stands in `subOut` of a next state is the model's choice (DESIGN CHOICE, assumption log
4). -/
def Obligations.ExtractReadsTheField : Prop :=
  ∀ (w : Word) (r : BitRange) (s : State),
    let field : Word := BitVec.ofNat 32 (w.toNat / 2 ^ r.start.toNat % 2 ^ (r.stop - r.start).toNat)
    (0 ≤ r.start ∧ r.start < r.stop ∧ r.stop ≤ 32 →
      exec (.extract w r) s = .next { s with subOut := field })
    ∧ (¬ (0 ≤ r.start ∧ r.start < r.stop ∧ r.stop ≤ 32) →
      extract w r = .error .rangeBounds ∧ exec (.extract w r) s = .fault .wrongTable)

/-- R140 to R142: SEXT of width K in 1..31 gives the sign extension of the low K bits, the other bits of
the value having no part in it, a value in `[-2^(K-1), 2^(K-1) - 1]`; any other width is a fault. That the
result stands in `subOut` of a next state is the model's choice (DESIGN CHOICE, assumption log 4). -/
def Obligations.SextExtendsTheLowBits : Prop :=
  ∀ (k : Nat) (v : Word) (s : State),
    (1 ≤ k ∧ k ≤ 31 → ∃ r : Word,
      exec (.sext k v) s = .next { s with subOut := r }
      ∧ r = (v.extractLsb' 0 k).signExtend 32
      ∧ r.toInt = (v.toNat % 2 ^ k : Nat) - 2 ^ k * (v.getLsbD (k - 1)).toNat
      ∧ -(2 ^ (k - 1)) ≤ r.toInt ∧ r.toInt ≤ 2 ^ (k - 1) - 1)
    ∧ (¬ (1 ≤ k ∧ k ≤ 31) → exec (.sext k v) s = .fault .sextWidth)

/-! ### Round trips -/

/-- R178 (a): for every format and every word, encoding the decoded fields gives the word back. -/
def Obligations.EncodingDecodedFieldsGivesTheWord : Prop :=
  ∀ (f : Fmt) (w : Word) (s : State), ∃ t u,
    step (s.present (decodeInputs f w)) = .next t
    ∧ step (t.present (feedBack f t.out)) = .next u ∧ u.out.word = w

/-- R178 (b): for every format and every input within the port contract, decoding the encoded word gives
back every field the format defines, but for bit 0 of a B or J displacement and for the sign
extension of a CSR number. -/
def Obligations.DecodingEncodedFieldsGivesThemBack : Prop :=
  ∀ (f : Fmt) (s : State), s.inp.op = encodeSelect f → immOk f s.inp.imm = true → ∃ t u,
    step s = .next t ∧ step (t.present (decodeInputs f t.out.word)) = .next u
    ∧ match f with
      | .R => u.out = fieldsR 0#8 s.inp.opcode s.inp.rd s.inp.funct3 s.inp.rs1 s.inp.rs2 s.inp.funct7
      | .I => (∃ imm, u.out = fieldsI 0#8 s.inp.opcode s.inp.rd s.inp.funct3 s.inp.rs1 imm
          ∧ imm.extractLsb' 0 12 = s.inp.imm.extractLsb' 0 12
          ∧ (s.inp.imm = (s.inp.imm.extractLsb' 0 12).signExtend 32 → imm = s.inp.imm)
          ∧ imm = (imm.extractLsb' 0 12).signExtend 32)
      | .S => u.out = fieldsS 0#8 s.inp.opcode s.inp.funct3 s.inp.rs1 s.inp.rs2 s.inp.imm
      | .B => u.out = fieldsB 0#8 s.inp.opcode s.inp.funct3 s.inp.rs1 s.inp.rs2 (s.inp.imm &&& ~~~1#32)
      | .U => u.out = fieldsU 0#8 s.inp.opcode s.inp.rd s.inp.imm
      | .J => u.out = fieldsJ 0#8 s.inp.opcode s.inp.rd (s.inp.imm &&& ~~~1#32)

/-- R41, R42: the output lanes are the word's bytes in storage order; the word every decode reads is made of
the input lanes when `in_bytes_sel = 1` and is `in_word` otherwise. So an encoded word's lanes,
presented as input lanes, are that word again. -/
def Obligations.ByteLanesCarryTheWord : Prop :=
  (∀ s t : State, step s = .next t →
    t.out.byte0 = t.out.word.extractLsb' 0 8 ∧ t.out.byte1 = t.out.word.extractLsb' 8 8
    ∧ t.out.byte2 = t.out.word.extractLsb' 16 8 ∧ t.out.byte3 = t.out.word.extractLsb' 24 8)
  ∧ (∀ i : Inputs, i.bytesSel = 1#1 → i.selected = i.byte3 ++ i.byte2 ++ i.byte1 ++ i.byte0)
  ∧ (∀ i : Inputs, i.bytesSel = 0#1 → i.selected = i.word)
  ∧ ∀ (s t : State) (i : Inputs), step s = .next t → i.bytesSel = 1#1 → i.byte0 = t.out.byte0 →
      i.byte1 = t.out.byte1 → i.byte2 = t.out.byte2 → i.byte3 = t.out.byte3 →
      i.selected = t.out.word

/-! ### The boundary upstream of the block -/

/-- R101 to R107, R110: the acceptance sets and the stored sets, and MIN and MAX of the five types for which
the spec gives them. MAX of the even types is by decision D10 (assumption log 13). -/
def Obligations.NarrowTypeDomains : Prop :=
  ∀ v : Int,
    (NarrowType.register.legal v = true ↔ 0 ≤ v ∧ v ≤ 31)
    ∧ (NarrowType.uimm5.legal v = true ↔ 0 ≤ v ∧ v ≤ 31)
    ∧ (NarrowType.imm12.legal v = true ↔ -2048 ≤ v ∧ v ≤ 2047)
    ∧ (NarrowType.csr.legal v = true ↔ 0 ≤ v ∧ v ≤ 4095)
    ∧ (NarrowType.fenceMask.legal v = true ↔ 0 ≤ v ∧ v ≤ 15)
    ∧ (NarrowType.bImm.accepts v = true ↔ -4096 ≤ v ∧ v ≤ 4095)
    ∧ (NarrowType.bImm.legal v = true ↔ -4096 ≤ v ∧ v ≤ 4094 ∧ v % 2 = 0)
    ∧ (NarrowType.jImm.accepts v = true ↔ -1048576 ≤ v ∧ v ≤ 1048575)
    ∧ (NarrowType.jImm.legal v = true ↔ -1048576 ≤ v ∧ v ≤ 1048574 ∧ v % 2 = 0)
    ∧ NarrowType.bImm.min = -4096 ∧ NarrowType.bImm.max = 4094
    ∧ NarrowType.jImm.min = -1048576 ∧ NarrowType.jImm.max = 1048574
    ∧ NarrowType.imm12.min = -2048 ∧ NarrowType.imm12.max = 2047
    ∧ NarrowType.uimm5.min = 0 ∧ NarrowType.uimm5.max = 31
    ∧ NarrowType.csr.min = 0 ∧ NarrowType.csr.max = 4095

/-- R106: an even type stores `v & ~1` of an accepted value: an even value unchanged, an odd one less 1;
a stored value stays within the type. The other types store every accepted value unchanged. -/
def Obligations.RoundingClearsBitZero : Prop :=
  ∀ (t : NarrowType) (v : Int), t.accepts v = true →
    t.legal (t.store v) = true
    ∧ (t.even = true → BitVec.ofInt 32 (t.store v) = BitVec.ofInt 32 v &&& ~~~1#32
        ∧ (v % 2 = 0 → t.store v = v) ∧ (v % 2 ≠ 0 → t.store v = v - 1))
    ∧ (t.even = false → t.store v = v)

/-- R109: negation of a signed narrow integer stays within the type; MIN is its own negation, every
other value negates arithmetically. -/
def Obligations.NegationStaysWithinTheType : Prop :=
  ∀ (t : NarrowType) (v : Int), t.signed = true → t.legal v = true →
    t.legal (t.neg v) = true ∧ (v = t.min → t.neg v = v) ∧ (v ≠ t.min → t.neg v = -v)

/-- R110: the flags are i, o, r and w, in bits 3, 2, 1 and 0, and no other character is one; a string is a fence
mask exactly when every character is a flag and none is given twice, its mask the union of its flags;
otherwise the error names the first offending character and its position. Which bit holds which flag is
PRESUMED (assumption log 10); scan order, positions from 0 and the empty string are by decision D11
(assumption log 13). -/
def Obligations.FenceMaskParsing : Prop :=
  fenceFlag 'i' = some 0b1000#4 ∧ fenceFlag 'o' = some 0b0100#4
  ∧ fenceFlag 'r' = some 0b0010#4 ∧ fenceFlag 'w' = some 0b0001#4
  ∧ (∀ c : Char, c ≠ 'i' → c ≠ 'o' → c ≠ 'r' → c ≠ 'w' → fenceFlag c = none)
  ∧ ∀ flags : List Char,
      (∀ m, parseFence flags = .ok m ↔
        (∀ c ∈ flags, (fenceFlag c).isSome = true) ∧ flags.Nodup
          ∧ m = flags.foldr (fun c acc => (fenceFlag c).getD 0#4 ||| acc) 0#4)
      ∧ (∀ c p, parseFence flags = .error (.invalidFlag c p) ↔
        flags[p]? = some c ∧ fenceFlag c = none
          ∧ (∀ d ∈ flags.take p, (fenceFlag d).isSome = true) ∧ (flags.take p).Nodup)
      ∧ (∀ c p, parseFence flags = .error (.duplicateFlag c p) ↔
        flags[p]? = some c ∧ c ∈ flags.take p
          ∧ (∀ d ∈ flags.take p, (fenceFlag d).isSome = true) ∧ (flags.take p).Nodup)

/-- R111, R112: a conversion fails exactly on a value outside the acceptance set, its error carrying the
value, the native width and that width's count of hex digits; it is infallible exactly from the
native types all of whose values are accepted (DEDUCED, assumption log 8); conversion out loses nothing. The
form of the hex text is assumption log 13; that a failed conversion out carries nothing is the model's
choice (DESIGN CHOICE, assumption log 15). -/
def Obligations.ConversionsFailExactlyOutsideTheDomain : Prop :=
  ∀ (t : NarrowType) (n : NativeType),
    (∀ v, t.accepts v = true → convert t n v = .ok (t.store v))
    ∧ (∀ v, t.accepts v = false →
        convert t n v = .error ⟨v, n.width, hexOf n v⟩ ∧ (hexOf n v).length = 2 + n.width / 4)
    ∧ (infallible t n = true ↔ ∀ v, n.holds v = true → t.accepts v = true)
    ∧ (∀ v, n.holds v = true → convertOut n v = some v)
    ∧ ∀ v, n.holds v = false → convertOut n v = none

/-- R114, R103 to R108: the port contract holds exactly of the patterns that a value of the format's
immediate type is carried as. -/
def Obligations.PortContractIsTheImmediateDomain : Prop :=
  ∀ imm : Word,
    immOk .R imm = true
    ∧ (immOk .I imm = true ↔
        (∃ v, NarrowType.imm12.legal v = true ∧ imm = NarrowType.imm12.port v)
        ∨ ∃ v, NarrowType.csr.legal v = true ∧ imm = NarrowType.csr.port v)
    ∧ (immOk .S imm = true ↔ ∃ v, NarrowType.imm12.legal v = true ∧ imm = NarrowType.imm12.port v)
    ∧ (immOk .B imm = true ↔ ∃ v, NarrowType.bImm.accepts v = true ∧ imm = NarrowType.bImm.port v)
    ∧ (immOk .U imm = true ↔ imm.toNat % 4096 = 0)
    ∧ (immOk .J imm = true ↔ ∃ v, NarrowType.jImm.accepts v = true ∧ imm = NarrowType.jImm.port v)
    ∧ ∀ v, NarrowType.jImm.accepts v = true → (NarrowType.jImm.port v).toInt = v
end

