-- ==== Sys2Proof/Laws/Bitfield.lean ====
section
/-!
SUPPORT. What the bitfield engine and the sign-extension shifter do, bit by bit, so that later proofs
need not unfold them.
-/

namespace Sys2Proof

theorem BitRange.ok_iff (r : BitRange) : r.ok = true ↔ 0 ≤ r.start ∧ r.start < r.stop ∧ r.stop ≤ 32 := by
  simp [BitRange.ok, and_assoc]

theorem mask_getLsbD (n j : Nat) : (mask n).getLsbD j = (decide (j < 32) && decide (j < n)) := by
  simp [mask, BitVec.getLsbD_ofNat, Nat.testBit_two_pow_sub_one]

theorem BitRange.mask_getLsbD (r : BitRange) (j : Nat) :
    r.mask.getLsbD j
      = (decide (j < 32) && decide (r.start.toNat ≤ j)
          && decide (j - r.start.toNat < r.len.toNat)) := by
  simp only [BitRange.mask, BitVec.getLsbD_shiftLeft, Sys2Proof.mask_getLsbD]
  by_cases h : j < 32 <;> by_cases g : r.start.toNat ≤ j <;> simp [h, g, Nat.not_lt.mpr, Nat.lt_of_not_le]
  omega

/-- R129: bit j of a field is bit `start + j` of the value, and 0 from `len` up. -/
theorem fieldOf_getLsbD (v : Word) (r : BitRange) (j : Nat) :
    (fieldOf v r).getLsbD j = (decide (j < r.len.toNat) && v.getLsbD (r.start.toNat + j)) := by
  simp only [fieldOf, BitVec.getLsbD_and, BitVec.getLsbD_ushiftRight, mask_getLsbD]
  by_cases h : j < 32
  · simp only [h, decide_true, Bool.true_and, Bool.and_comm]
  · rw [BitVec.getLsbD_of_ge v _ (by omega)]
    simp

/-- R122: bit j of what a spec contributes. -/
theorem BitFieldSpec.placed_getLsbD (sp : BitFieldSpec) (j : Nat) :
    sp.placed.getLsbD j
      = (decide (j < 32) && decide (sp.dst.start.toNat ≤ j)
          && decide (j - sp.dst.start.toNat < sp.src.len.toNat)
          && sp.value.getLsbD (sp.src.start.toNat + (j - sp.dst.start.toNat))) := by
  simp only [BitFieldSpec.placed, BitVec.getLsbD_shiftLeft, fieldOf_getLsbD]
  by_cases g : sp.dst.start.toNat ≤ j
  · simp [g, Nat.not_lt.mpr g, Bool.and_assoc]
  · simp [g, Nat.lt_of_not_le g]

/-- R129: EXTRACT of a well-formed range. -/
theorem extract_of_ok {r : BitRange} (h : r.ok = true) (w : Word) :
    extract w r = .ok (fieldOf w r) := by
  simp [extract, h]

/-- R130: EXTRACT of a malformed range. -/
theorem extract_of_not_ok {r : BitRange} (h : r.ok = false) (w : Word) :
    extract w r = .error .rangeBounds := by
  simp [extract, h]

/-- One step of the merge loop: what must hold of the first spec, and what is left to merge. -/
theorem mergeFrom_cons_ok {acc visited w : Word} {sp : BitFieldSpec} {rest : List BitFieldSpec} :
    mergeFrom acc visited (sp :: rest) = .ok w ↔
      sp.dst.len = sp.src.len ∧ sp.dst.ok = true ∧ sp.src.ok = true
        ∧ visited &&& sp.dst.mask = 0#32
        ∧ mergeFrom (acc ||| sp.placed) (visited ||| sp.dst.mask) rest = .ok w := by
  simp only [mergeFrom]
  by_cases h1 : sp.dst.len = sp.src.len <;> by_cases h2 : sp.dst.ok = true <;>
    by_cases h3 : sp.src.ok = true <;> by_cases h4 : visited &&& sp.dst.mask = 0#32 <;>
    simp [h1, h2, h3, h4]

/-- R122: a merge that gives a word gives the union of what its specs contribute. -/
theorem mergeFrom_ok_eq (specs : List BitFieldSpec) :
    ∀ acc visited w, mergeFrom acc visited specs = .ok w →
      w = specs.foldl (fun a sp => a ||| sp.placed) acc := by
  induction specs with
  | nil => intro acc visited w h; simpa [mergeFrom] using h.symm
  | cons sp rest ih =>
    intro acc visited w h
    exact ih _ _ _ (mergeFrom_cons_ok.mp h).2.2.2.2

/-- R142: the low K bits are the value's, the others copies of bit K-1. -/
theorem sext_getLsbD {k : Nat} (hk : 1 ≤ k ∧ k ≤ 31) (v : Word) :
    ∃ w, sext k v = .ok w ∧
      ∀ j, j < 32 → w.getLsbD j = if j < k then v.getLsbD j else v.getLsbD (k - 1) := by
  refine ⟨(v <<< (32 - k)).sshiftRight (32 - k), by rw [sext, if_pos hk], ?_⟩
  intro j hj
  rw [BitVec.getLsbD_sshiftRight, BitVec.msb_eq_getLsbD_last, BitVec.getLsbD_shiftLeft,
    BitVec.getLsbD_shiftLeft]
  by_cases h : j < k
  · simp [h, show 32 - k + j < 32 by omega, show ¬ 32 ≤ j by omega]
  · simp only [h, show ¬ 32 - k + j < 32 by omega, show ¬ 32 ≤ j by omega,
      show ¬ 32 - 1 < 32 - k by omega, show 32 - 1 - (32 - k) = k - 1 by omega]
    simp

/-- R141: a width outside 1..31. -/
theorem sext_of_bad {k : Nat} (hk : ¬ (1 ≤ k ∧ k ≤ 31)) (v : Word) :
    sext k v = .error .sextWidth := by
  simp only [sext, if_neg hk]

end Sys2Proof
end

