-- ==== Sys2Proof/Laws/State.lean ====
section
/-!
SUPPORT. The small lemmas of State's updates and of reset: one per field per update, each true by rfl.
-/

namespace Sys2Proof.Machine

@[simp] theorem State.drive_out (s : State) (o : Outputs) : (s.drive o).out = o := rfl
@[simp] theorem State.drive_inp (s : State) (o : Outputs) : (s.drive o).inp = s.inp := rfl
@[simp] theorem State.drive_dispatch (s : State) (o : Outputs) :
    (s.drive o).dispatch = s.dispatch := rfl
@[simp] theorem State.drive_subOut (s : State) (o : Outputs) : (s.drive o).subOut = s.subOut := rfl

@[simp] theorem State.setSub_out (s : State) (w : Word) : (s.setSub w).out = s.out := rfl
@[simp] theorem State.setSub_inp (s : State) (w : Word) : (s.setSub w).inp = s.inp := rfl
@[simp] theorem State.setSub_dispatch (s : State) (w : Word) :
    (s.setSub w).dispatch = s.dispatch := rfl
@[simp] theorem State.setSub_subOut (s : State) (w : Word) : (s.setSub w).subOut = w := rfl

@[simp] theorem State.present_inp (s : State) (i : Inputs) : (s.present i).inp = i := rfl
@[simp] theorem State.present_out (s : State) (i : Inputs) : (s.present i).out = s.out := rfl
@[simp] theorem State.present_dispatch (s : State) (i : Inputs) :
    (s.present i).dispatch = s.dispatch := rfl
@[simp] theorem State.present_subOut (s : State) (i : Inputs) :
    (s.present i).subOut = s.subOut := rfl

@[simp] theorem State.powerUp_dispatch (d : Dispatch) : (State.powerUp d).dispatch = d := rfl
@[simp] theorem State.powerUp_inp (d : Dispatch) : (State.powerUp d).inp = Inputs.zero := rfl
@[simp] theorem State.powerUp_out (d : Dispatch) : (State.powerUp d).out = Outputs.zero := rfl
@[simp] theorem State.powerUp_subOut (d : Dispatch) : (State.powerUp d).subOut = 0 := rfl

@[simp] theorem State.drive_drive (s : State) (o p : Outputs) : (s.drive o).drive p = s.drive p := rfl

@[simp] theorem State.withFetchWord_out (s : State) (n w : Nat) :
    (s.withFetchWord n w).out = s.out := rfl
@[simp] theorem State.withFetchWord_dispatch (s : State) (n w : Nat) :
    (s.withFetchWord n w).dispatch = s.dispatch := rfl

end Sys2Proof.Machine
end

