-- ==== Sys2Proof/Laws/Ops.lean ====
section
/-!
SUPPORT. What the shared operations can do, said once: an evaluation that answers a next state changed
only the outputs (or only the sub-unit's result), and when it answers one.
-/

namespace Sys2Proof.Machine

/-- If an evaluation answers `t`, it computed outputs and `t` is the old state with those driven. -/
theorem finish_next {s t : State} {r : Except FaultCode Outputs} (h : finish s r = .next t) :
    ∃ o, r = .ok o ∧ t = s.drive o := by
  cases r with
  | ok o => exact ⟨o, rfl, by simpa [finish] using h.symm⟩
  | error c => simp [finish] at h

@[simp] theorem finish_ok (s : State) (o : Outputs) : finish s (.ok o) = .next (s.drive o) := rfl

@[simp] theorem finish_error (s : State) (c : FaultCode) :
    finish s (.error c) = .fault (faultOf c) := rfl

/-- If a sub-unit evaluation answers `t`, the instance gave a word and only the sub-unit result changed. -/
theorem finishSub_next {s t : State} {r : Except FaultCode Word} (h : finishSub s r = .next t) :
    ∃ w, r = .ok w ∧ t = s.setSub w := by
  cases r with
  | ok w => exact ⟨w, rfl, by simpa [finishSub] using h.symm⟩
  | error c => simp [finishSub] at h

@[simp] theorem finishSub_ok (s : State) (w : Word) : finishSub s (.ok w) = .next (s.setSub w) := rfl

@[simp] theorem finishSub_error (s : State) (c : FaultCode) :
    finishSub s (.error c) = .fault (faultOf c) := rfl

@[simp] theorem encodeOutputs_of_merge {table : List BitFieldSpec} {w : Word}
    (h : merge table = .ok w) : encodeOutputs table = .ok (wordOutputs w) := by
  simp [encodeOutputs, h, Except.bind, bind]

/-- Every EXTRACT range of the block is well formed (R130). -/
theorem extract_rng (w : Word) {a b : Int} (h : (rng a b).ok = true) :
    extract w (rng a b) = .ok (fieldOf w (rng a b)) := extract_of_ok h w

end Sys2Proof.Machine
end

