-- ==== Sys2Proof/Tests/Slice0.lean ====
section
/-!
SUPPORT. The model's own tests. Expected results come from spec/95_test_vectors.md (the row is named in each
comment) or from hand calculation with the tables of spec/30_encoding.md. Every test evaluates the block once.
The witnesses at the end show, for each statement with hypotheses, inputs that meet them.
-/

namespace Sys2Proof.Tests

open Sys2Proof Sys2Proof.Machine

/-- The outputs of one evaluation of a block built with the candidate. -/
def answer (i : Inputs) : Option Outputs := outputsOf (step (State.reset.present i))

/-- Inputs for a format operation, in the order of spec/95_test_vectors.md section 2.5. -/
def fields (op : BitVec 4) (opcode : BitVec 7) (rd : Reg) (funct3 : BitVec 3) (rs1 rs2 : Reg)
    (funct7 : BitVec 7) (imm : Int) : Inputs :=
  { Inputs.zero with
    op := op, opcode := opcode, rd := rd, funct3 := funct3, rs1 := rs1, rs2 := rs2, funct7 := funct7
    imm := BitVec.ofInt 32 imm }

/-- Inputs that present a word to a decode operation. -/
def given (op : BitVec 4) (w : Word) : Inputs := { Inputs.zero with op := op, word := w }

/-- What evaluating an instruction on its own answers after power-up. -/
def ran (i : Instr) : Option Outputs := outputsOf (exec i State.reset)

/-- The sub-unit result of an evaluation, none if it stopped. -/
def subResult (r : Result) : Option Word :=
  match r with
  | .next t => some t.subOut
  | .fault _ => none
  | .refused _ => none

/-- The fault of an evaluation. -/
def faultIn (r : Result) : Option Fault :=
  match r with
  | .next _ => none
  | .fault f => some f
  | .refused _ => none

/-! ### WellFormed: one ill-formed term for each check -/

/-- R105. -/
theorem test_wf_odd_branch :
    (Instr.beq 1#5 2#5 0x0001#13).wellFormed = false
    ∧ (Instr.bgeu 1#5 2#5 0x1FFF#13).wellFormed = false := by decide

/-- R107. -/
theorem test_wf_odd_jump : (Instr.jal 1#5 0x000001#21).wellFormed = false := by decide

/-- R108. -/
theorem test_wf_upper_low_bits :
    (Instr.lui 1#5 0x12345001#32).wellFormed = false
    ∧ (Instr.auipc 1#5 0x00000800#32).wellFormed = false := by decide

/-- R123, vector M7. -/
theorem test_wf_merge_length :
    (Instr.merge [⟨⟨0, 5⟩, 0#32, ⟨0, 4⟩⟩]).wellFormed = false := by decide

/-- R124, vectors M8 and M6. -/
theorem test_wf_merge_bounds :
    (Instr.merge [⟨⟨30, 33⟩, 0#32, ⟨0, 3⟩⟩]).wellFormed = false
    ∧ (Instr.merge [⟨⟨2, 2⟩, 0#32, ⟨2, 2⟩⟩]).wellFormed = false := by decide

/-- R125, vector M5. -/
theorem test_wf_merge_overlap :
    (Instr.merge [⟨⟨0, 5⟩, 0#32, ⟨0, 5⟩⟩, ⟨⟨2, 3⟩, 0#32, ⟨2, 3⟩⟩]).wellFormed = false := by decide

/-- R130, vector X5. -/
theorem test_wf_extract :
    (Instr.extract 0#32 ⟨5, 5⟩).wellFormed = false
    ∧ (Instr.extract 0#32 ⟨-1, 3⟩).wellFormed = false := by decide

/-- R141. -/
theorem test_wf_sext :
    (Instr.sext 0 0#32).wellFormed = false
    ∧ (Instr.sext 32 0#32).wellFormed = false := by decide

/-! ### Decoding: words written out bit by bit from the encodings of spec/30_encoding.md -/

/-- R71: imm[31:12], rd, opcode (row EU1). -/
theorem test_decode_lui :
    decodeWord 0b00010010001101000101_00001_0110111#32 = .ok (.lui 1#5 0x12345000#32) := by decide

/-- R72: imm[20], imm[10:1], imm[11], imm[19:12], rd, opcode (row EJ1); imm[13], imm[11] and imm[1] set. -/
theorem test_decode_jal :
    decodeWord 0b1_0000000000_0_00000000_00001_1101111#32 = .ok (.jal 1#5 0x100000#21)
    ∧ decodeWord 0b0_0000000001_1_00000010_00001_1101111#32 = .ok (.jal 1#5 0x002802#21) := by decide

/-- R68: imm[11:0], rs1, funct3, rd, opcode. -/
theorem test_decode_jalr :
    decodeWord 0b000000000100_00010_000_00001_1100111#32 = .ok (.jalr 1#5 2#5 4#12) := by decide

/-- R70: imm[12], imm[10:5], rs2, rs1, funct3, imm[4:1], imm[11] (row EB4). -/
theorem test_decode_bne :
    decodeWord 0b1_111111_00010_00001_001_1111_1_1100011#32
      = .ok (.bne 1#5 2#5 0x1FFE#13) := by decide

/-- R70: imm[11] alone (row EB6). -/
theorem test_decode_beq_bit11 :
    decodeWord 0b0_000000_00000_00000_000_0000_1_1100011#32
      = .ok (.beq 0#5 0#5 0x0800#13) := by decide

/-- Row EI7. -/
theorem test_decode_lw :
    decodeWord 0b111111111100_00010_010_01010_0000011#32 = .ok (.lw 10#5 2#5 0xFFC#12) := by decide

/-- R69: imm[11:5], rs2, rs1, funct3, imm[4:0], opcode (row ES1). -/
theorem test_decode_sw :
    decodeWord 0b1111111_01010_00010_010_11100_0100011#32 = .ok (.sw 2#5 10#5 0xFFC#12) := by decide

/-- Row EI1, the worked example W10. -/
theorem test_decode_addi :
    decodeWord 0b011111111111_11111_000_11110_0010011#32
      = .ok (.addi 30#5 31#5 0x7FF#12) := by decide

/-- R67, R75: the shift amount in the rs2 position (row ER4). -/
theorem test_decode_srai :
    decodeWord 0b0100000_11111_00001_101_00001_0010011#32 = .ok (.srai 1#5 1#5 31#5) := by decide

/-- R67: funct7, rs2, rs1, funct3, rd, opcode (row ER3). -/
theorem test_decode_sub :
    decodeWord 0b0100000_00111_00110_000_00101_0110011#32 = .ok (.sub 5#5 6#5 7#5) := by decide

/-- Row ER5. -/
theorem test_decode_divu :
    decodeWord 0b0000001_01100_01011_101_01010_0110011#32 = .ok (.divu 10#5 11#5 12#5) := by decide

/-- fm, pred, succ, rs1, funct3, rd, opcode (row T6). -/
theorem test_decode_fence :
    decodeWord 0b0000_1111_1111_00000_000_00000_0001111#32
      = .ok (.fence 0#5 0#5 0xF#4 0xF#4) := by decide

/-- Row T7. -/
theorem test_decode_fence_tso :
    decodeWord 0b1000_0011_0011_00000_000_00000_0001111#32
      = .ok (.fenceTso 0#5 0#5 3#4 3#4) := by decide

/-- Row T2. -/
theorem test_decode_ebreak :
    decodeWord 0b000000000001_00000_000_00000_1110011#32 = .ok (.ebreak 0#5 0#5) := by decide

/-- R75: the CSR number in the immediate field (row EI6). -/
theorem test_decode_csrrw :
    decodeWord 0b110000000000_00110_001_00101_1110011#32 = .ok (.csrrw 5#5 6#5 0xC00#12) := by decide

/-- The 5-bit immediate in the rs1 position. -/
theorem test_decode_csrrsi :
    decodeWord 0b001101000000_10001_110_00111_1110011#32
      = .ok (.csrrsi 7#5 17#5 0x340#12) := by decide

/-- R60. -/
theorem test_decode_ops :
    decode [0b00000101#8] = .ok .encJ
    ∧ decode [0b00001010#8] = .ok .decS
    ∧ decode [0b00001110#8] = .ok .decode
    ∧ decode [0b00000111#8] = .ok .reserved0111 := by decide

/-- Rows T12, T13, T16, T17, T19, T21; a byte above 15; no bytes. -/
theorem test_decode_rejects :
    decodeWord 0x0000007F#32 = .error .opcode
    ∧ decodeWord 0x00003003#32 = .error .funct3
    ∧ decodeWord 0x40001033#32 = .error .funct7
    ∧ decodeWord 0x1000000F#32 = .error .fenceMode
    ∧ decodeWord 0x02001013#32 = .error .shiftMode
    ∧ decodeWord 0x30200073#32 = .error .funct12
    ∧ decode [0x10#8] = .error .opSelect
    ∧ decode [] = .error .length := by decide

/-- R41: least significant byte first (byte lanes of EI1). -/
theorem test_encode_bytes :
    encode (.addi 30#5 31#5 0x7FF#12) = some [0x13#8, 0x8F#8, 0xFF#8, 0x7F#8]
    ∧ encode .decode = some [0x0E#8]
    ∧ encode (.sext 12 0#32) = none := by decide

/-- An op value, a word of which the table gives the low bits, a whole word. -/
theorem test_table_words :
    decodeTableWord 8 0b1101 = some .decJ
    ∧ decodeTableWord 8 0x37 = some (.lui 0#5 0#32)
    ∧ decodeTableWord 32 0x00100073 = some (.ebreak 0#5 0#5) := by decide

/-! ### The encoders (spec/95_test_vectors.md section 2.5) -/

/-- Row ER2. -/
theorem test_encR_max :
    answer (fields 0b0000#4 0x33#7 31#5 7#3 31#5 31#5 0x7F#7 (0))
      = some (encodedWord 0xFFFFFFB3#32) := by decide

/-- Row ER3. -/
theorem test_encR_sub :
    answer (fields 0b0000#4 0x33#7 5#5 0#3 6#5 7#5 0x20#7 (0))
      = some (encodedWord 0x407302B3#32) := by decide

/-- Row EI3. -/
theorem test_encI_min :
    answer (fields 0b0001#4 0x13#7 1#5 0#3 0#5 0#5 0x00#7 (-2048))
      = some (encodedWord 0x80000093#32) := by decide

/-- Row EI6. -/
theorem test_encI_csr :
    answer (fields 0b0001#4 0x73#7 5#5 1#3 6#5 0#5 0x00#7 (3072))
      = some (encodedWord 0xC00312F3#32) := by decide

/-- Row ES4. -/
theorem test_encS_split :
    answer (fields 0b0010#4 0x23#7 0#5 1#3 8#5 9#5 0x00#7 (37))
      = some (encodedWord 0x029412A3#32) := by decide

/-- Row ES3. -/
theorem test_encS_min :
    answer (fields 0b0010#4 0x23#7 0#5 0#3 1#5 2#5 0x00#7 (-2048))
      = some (encodedWord 0x80208023#32) := by decide

/-- Row EB8. -/
theorem test_encB_odd :
    answer (fields 0b0011#4 0x63#7 0#5 0#3 1#5 2#5 0x00#7 (-127))
      = some (encodedWord 0xF82080E3#32) := by decide

/-- Row EB6. -/
theorem test_encB_bit11 :
    answer (fields 0b0011#4 0x63#7 0#5 0#3 0#5 0#5 0x00#7 (2048))
      = some (encodedWord 0x000000E3#32) := by decide

/-- Row EU3. -/
theorem test_encU_low :
    answer (fields 0b0100#4 0x37#7 1#5 0#3 0#5 0#5 0x00#7 (305422335))
      = some (encodedWord 0x123450B7#32) := by decide

/-- Row EU4. -/
theorem test_encU_top :
    answer (fields 0b0100#4 0x17#7 31#5 0#3 0#5 0#5 0x00#7 (2147483648))
      = some (encodedWord 0x80000F97#32) := by decide

/-- Row EJ5. -/
theorem test_encJ_bit11 :
    answer (fields 0b0101#4 0x6F#7 1#5 0#3 0#5 0#5 0x00#7 (2048))
      = some (encodedWord 0x001000EF#32) := by decide

/-- Row EJ6. -/
theorem test_encJ_neg :
    answer (fields 0b0101#4 0x6F#7 0#5 0#3 0#5 0#5 0x00#7 (-8))
      = some (encodedWord 0xFF9FF06F#32) := by decide

/-- The byte lanes of EB8. -/
theorem test_byte_lanes :
    (answer (fields 3#4 0x63#7 0#5 0#3 1#5 2#5 0#7 (-127))).map (fun o => [o.byte0, o.byte1, o.byte2, o.byte3])
      = some [0xE3#8, 0x80#8, 0x20#8, 0xF8#8] := by decide

/-! ### The format decoders (spec/95_test_vectors.md section 2.6) -/

theorem test_decR :
    answer (given 0b1000#4 0xFFF00093#32)
      = some (fieldsR 0#8 19#7 1#5 0#3 0#5 31#5 127#7) := by decide

theorem test_decR_top :
    answer (given 0b1000#4 0x7FFFFFFF#32)
      = some (fieldsR 0#8 127#7 31#5 7#3 31#5 31#5 63#7) := by decide

theorem test_decI :
    answer (given 0b1001#4 0xFFF00093#32)
      = some (fieldsI 0#8 19#7 1#5 0#3 0#5 (BitVec.ofInt 32 (-1))) := by decide

theorem test_decI_min :
    answer (given 0b1001#4 0x80000093#32)
      = some (fieldsI 0#8 19#7 1#5 0#3 0#5 (BitVec.ofInt 32 (-2048))) := by decide

theorem test_decS :
    answer (given 0b1010#4 0xFFF00093#32)
      = some (fieldsS 0#8 19#7 0#3 0#5 31#5 (BitVec.ofInt 32 (-31))) := by decide

theorem test_decS_top :
    answer (given 0b1010#4 0x7FFFFFFF#32)
      = some (fieldsS 0#8 127#7 7#3 31#5 31#5 (BitVec.ofInt 32 (2047))) := by decide

theorem test_decB :
    answer (given 0b1011#4 0xFFF00093#32)
      = some (fieldsB 0#8 19#7 0#3 0#5 31#5 (BitVec.ofInt 32 (-32))) := by decide

theorem test_decB_low :
    answer (given 0b1011#4 0x80000093#32)
      = some (fieldsB 0#8 19#7 0#3 0#5 0#5 (BitVec.ofInt 32 (-2048))) := by decide

theorem test_decU :
    answer (given 0b1100#4 0xFFF00093#32) = some (fieldsU 0#8 19#7 1#5 0xFFF00000#32) := by decide

theorem test_decU_top :
    answer (given 0b1100#4 0x7FFFFFFF#32) = some (fieldsU 0#8 127#7 31#5 0x7FFFF000#32) := by decide

theorem test_decJ :
    answer (given 0b1101#4 0xFFF00093#32)
      = some (fieldsJ 0#8 19#7 1#5 (BitVec.ofInt 32 (-1044482))) := by decide

theorem test_decJ_top :
    answer (given 0b1101#4 0x7FFFFFFF#32)
      = some (fieldsJ 0#8 127#7 31#5 (BitVec.ofInt 32 (1048574))) := by decide

/-! ### DECODE (spec/95_test_vectors.md section 2.8 and program P4) -/

/-- Row T4; program P4, word 1, by its byte lanes. -/
theorem test_topdecode :
    answer (given 0b1110#4 0x41F0D093#32)
      = some (fieldsR 26#8 0x13#7 1#5 5#3 1#5 31#5 0x20#7)
    ∧ answer { given 0b1110#4 0#32 with bytesSel := 1#1, byte0 := 0x33#8, byte1 := 0x10#8, byte3 := 0x40#8 }
      = some (derrOutputs 3#3 0x020#12) := by decide

/-- Rows T11, T12, T13, T15, T17, T18, T20, T21. -/
theorem test_topdecode_errors :
    answer (given 0b1110#4 0x00000000#32) = some (derrOutputs 1#3 0x000#12)
    ∧ answer (given 0b1110#4 0x0000007F#32) = some (derrOutputs 1#3 0x07F#12)
    ∧ answer (given 0b1110#4 0x00003003#32) = some (derrOutputs 2#3 0x003#12)
    ∧ answer (given 0b1110#4 0x00004073#32) = some (derrOutputs 2#3 0x004#12)
    ∧ answer (given 0b1110#4 0x1000000F#32) = some (derrOutputs 4#3 0x001#12)
    ∧ answer (given 0b1110#4 0x40001013#32) = some (derrOutputs 5#3 0x020#12)
    ∧ answer (given 0b1110#4 0x00200073#32) = some (derrOutputs 6#3 0x002#12)
    ∧ answer (given 0b1110#4 0x30200073#32) = some (derrOutputs 6#3 0x302#12) := by decide

/-- Section 2.4 and program P5, step 2. -/
theorem test_reserved0110 :
    faultIn (step (State.reset.present (fields 0b0110#4 0x33#7 1#5 0#3 2#5 3#5 0#7 0)))
      = some .reservedOp := by decide

/-- Section 2.4 and program P5, step 2. -/
theorem test_reserved0111 :
    faultIn (step (State.reset.present (fields 0b0111#4 0x33#7 1#5 0#3 2#5 3#5 0#7 0)))
      = some .reservedOp := by decide

/-- Section 2.4 and program P5, step 2. -/
theorem test_reserved1111 :
    faultIn (step (State.reset.present (fields 0b1111#4 0x33#7 1#5 0#3 2#5 3#5 0#7 0)))
      = some .reservedOp := by decide

/-! ### The sub-units (spec/95_test_vectors.md sections 2.1 and 2.2) -/

/-- M1 (the worked example W1) and M4. -/
theorem test_merge_words :
    subResult (exec (.merge [⟨⟨3, 5⟩, 0b11#32, ⟨0, 2⟩⟩, ⟨⟨7, 10⟩, 0b0100000#32, ⟨4, 7⟩⟩]) State.reset)
      = some 0x118#32
    ∧ merge [⟨⟨0, 16⟩, 0x12345678#32, ⟨16, 32⟩⟩, ⟨⟨16, 32⟩, 0x12345678#32, ⟨0, 16⟩⟩]
      = .ok 0x56781234#32 := by decide

/-- M5 to M9. -/
theorem test_merge_codes :
    merge [⟨⟨0, 5⟩, 7#32, ⟨0, 5⟩⟩, ⟨⟨2, 3⟩, 7#32, ⟨2, 3⟩⟩] = .error .overlap
    ∧ merge [⟨⟨0, 5⟩, 7#32, ⟨0, 5⟩⟩, ⟨⟨2, 2⟩, 7#32, ⟨2, 2⟩⟩] = .error .rangeBounds
    ∧ merge [⟨⟨0, 5⟩, 7#32, ⟨0, 4⟩⟩] = .error .lengthMismatch
    ∧ merge [⟨⟨30, 33⟩, 7#32, ⟨0, 3⟩⟩] = .error .rangeBounds
    ∧ merge [] = .ok 0#32 := by decide

/-- X4. -/
theorem test_extract_imm :
    subResult (exec (.extract 0x7FFF8F13#32 ⟨20, 32⟩) State.reset) = some 0x7FF#32 := by decide

/-- X2, X3, X5. -/
theorem test_extract_edges :
    extract 0xFFFFFFFF#32 ⟨31, 32⟩ = .ok 1#32
    ∧ extract 0xDEADBEEF#32 ⟨0, 32⟩ = .ok 0xDEADBEEF#32
    ∧ extract 7#32 ⟨5, 5⟩ = .error .rangeBounds := by decide

/-- Bits above K-1 ignored. -/
theorem test_sext_twelve :
    subResult (exec (.sext 12 0x12345800#32) State.reset) = some 0xFFFFF800#32 := by decide

theorem test_sext_edges :
    sext 1 1#32 = .ok 0xFFFFFFFF#32
    ∧ sext 31 0x40000000#32 = .ok 0xC0000000#32
    ∧ sext 31 0x3FFFFFFF#32 = .ok 0x3FFFFFFF#32
    ∧ sext 0 1#32 = .error .sextWidth
    ∧ sext 32 1#32 = .error .sextWidth := by decide

/-! ### The mnemonics with the candidate: the row's index, format and fields, from the table of
spec/30_encoding.md section 6; the operands are those of spec/95_test_vectors.md where it has the mnemonic -/

/-- P2. -/
theorem test_lui :
    ran (.lui 10#5 0x12345000#32) = some (fieldsU 0#8 0b0110111#7 10#5 0x12345000#32) := by decide

/-- T10. -/
theorem test_auipc :
    ran (.auipc 31#5 0x80000000#32) = some (fieldsU 1#8 0b0010111#7 31#5 0x80000000#32) := by decide

theorem test_jal :
    ran (.jal 1#5 0x1FFFF8#21)
      = some (fieldsJ 2#8 0b1101111#7 1#5 (BitVec.ofInt 32 (-8))) := by decide

theorem test_jalr :
    ran (.jalr 10#5 2#5 0xFFC#12)
      = some (fieldsI 3#8 0b1100111#7 10#5 0b000#3 2#5 (BitVec.ofInt 32 (-4))) := by decide

theorem test_beq :
    ran (.beq 10#5 1#5 0x1FF8#13)
      = some (fieldsB 4#8 0b1100011#7 0b000#3 10#5 1#5 (BitVec.ofInt 32 (-8))) := by decide

/-- Operands of EB7. -/
theorem test_bne :
    ran (.bne 10#5 1#5 0x1FF8#13)
      = some (fieldsB 5#8 0b1100011#7 0b001#3 10#5 1#5 (BitVec.ofInt 32 (-8))) := by decide

theorem test_blt :
    ran (.blt 10#5 1#5 0x1FF8#13)
      = some (fieldsB 6#8 0b1100011#7 0b100#3 10#5 1#5 (BitVec.ofInt 32 (-8))) := by decide

theorem test_bge :
    ran (.bge 10#5 1#5 0x1FF8#13)
      = some (fieldsB 7#8 0b1100011#7 0b101#3 10#5 1#5 (BitVec.ofInt 32 (-8))) := by decide

theorem test_bltu :
    ran (.bltu 10#5 1#5 0x1FF8#13)
      = some (fieldsB 8#8 0b1100011#7 0b110#3 10#5 1#5 (BitVec.ofInt 32 (-8))) := by decide

theorem test_bgeu :
    ran (.bgeu 10#5 1#5 0x1FF8#13)
      = some (fieldsB 9#8 0b1100011#7 0b111#3 10#5 1#5 (BitVec.ofInt 32 (-8))) := by decide

theorem test_lb :
    ran (.lb 10#5 2#5 0xFFC#12)
      = some (fieldsI 10#8 0b0000011#7 10#5 0b000#3 2#5 (BitVec.ofInt 32 (-4))) := by decide

theorem test_lh :
    ran (.lh 10#5 2#5 0xFFC#12)
      = some (fieldsI 11#8 0b0000011#7 10#5 0b001#3 2#5 (BitVec.ofInt 32 (-4))) := by decide

/-- Operands of EI7. -/
theorem test_lw :
    ran (.lw 10#5 2#5 0xFFC#12)
      = some (fieldsI 12#8 0b0000011#7 10#5 0b010#3 2#5 (BitVec.ofInt 32 (-4))) := by decide

theorem test_lbu :
    ran (.lbu 10#5 2#5 0xFFC#12)
      = some (fieldsI 13#8 0b0000011#7 10#5 0b100#3 2#5 (BitVec.ofInt 32 (-4))) := by decide

theorem test_lhu :
    ran (.lhu 10#5 2#5 0xFFC#12)
      = some (fieldsI 14#8 0b0000011#7 10#5 0b101#3 2#5 (BitVec.ofInt 32 (-4))) := by decide

/-- Operands of P2. -/
theorem test_sb :
    ran (.sb 2#5 11#5 0xFFF#12)
      = some (fieldsS 15#8 0b0100011#7 0b000#3 2#5 11#5 (BitVec.ofInt 32 (-1))) := by decide

theorem test_sh :
    ran (.sh 2#5 11#5 0xFFF#12)
      = some (fieldsS 16#8 0b0100011#7 0b001#3 2#5 11#5 (BitVec.ofInt 32 (-1))) := by decide

theorem test_sw :
    ran (.sw 2#5 11#5 0xFFF#12)
      = some (fieldsS 17#8 0b0100011#7 0b010#3 2#5 11#5 (BitVec.ofInt 32 (-1))) := by decide

theorem test_addi :
    ran (.addi 10#5 2#5 0xFFC#12)
      = some (fieldsI 18#8 0b0010011#7 10#5 0b000#3 2#5 (BitVec.ofInt 32 (-4))) := by decide

theorem test_slti :
    ran (.slti 10#5 2#5 0xFFC#12)
      = some (fieldsI 19#8 0b0010011#7 10#5 0b010#3 2#5 (BitVec.ofInt 32 (-4))) := by decide

theorem test_sltiu :
    ran (.sltiu 10#5 2#5 0xFFC#12)
      = some (fieldsI 20#8 0b0010011#7 10#5 0b011#3 2#5 (BitVec.ofInt 32 (-4))) := by decide

theorem test_xori :
    ran (.xori 10#5 2#5 0xFFC#12)
      = some (fieldsI 21#8 0b0010011#7 10#5 0b100#3 2#5 (BitVec.ofInt 32 (-4))) := by decide

theorem test_ori :
    ran (.ori 10#5 2#5 0xFFC#12)
      = some (fieldsI 22#8 0b0010011#7 10#5 0b110#3 2#5 (BitVec.ofInt 32 (-4))) := by decide

theorem test_andi :
    ran (.andi 10#5 2#5 0xFFC#12)
      = some (fieldsI 23#8 0b0010011#7 10#5 0b111#3 2#5 (BitVec.ofInt 32 (-4))) := by decide

theorem test_slli :
    ran (.slli 1#5 2#5 31#5)
      = some (fieldsR 24#8 0b0010011#7 1#5 0b001#3 2#5 31#5 0b0000000#7) := by decide

theorem test_srli :
    ran (.srli 1#5 2#5 31#5)
      = some (fieldsR 25#8 0b0010011#7 1#5 0b101#3 2#5 31#5 0b0000000#7) := by decide

theorem test_srai :
    ran (.srai 1#5 2#5 31#5)
      = some (fieldsR 26#8 0b0010011#7 1#5 0b101#3 2#5 31#5 0b0100000#7) := by decide

theorem test_add :
    ran (.add 10#5 11#5 12#5)
      = some (fieldsR 27#8 0b0110011#7 10#5 0b000#3 11#5 12#5 0b0000000#7) := by decide

theorem test_sub :
    ran (.sub 10#5 11#5 12#5)
      = some (fieldsR 28#8 0b0110011#7 10#5 0b000#3 11#5 12#5 0b0100000#7) := by decide

theorem test_sll :
    ran (.sll 10#5 11#5 12#5)
      = some (fieldsR 29#8 0b0110011#7 10#5 0b001#3 11#5 12#5 0b0000000#7) := by decide

theorem test_slt :
    ran (.slt 10#5 11#5 12#5)
      = some (fieldsR 30#8 0b0110011#7 10#5 0b010#3 11#5 12#5 0b0000000#7) := by decide

theorem test_sltu :
    ran (.sltu 10#5 11#5 12#5)
      = some (fieldsR 31#8 0b0110011#7 10#5 0b011#3 11#5 12#5 0b0000000#7) := by decide

theorem test_xor :
    ran (.xor 10#5 11#5 12#5)
      = some (fieldsR 32#8 0b0110011#7 10#5 0b100#3 11#5 12#5 0b0000000#7) := by decide

theorem test_srl :
    ran (.srl 10#5 11#5 12#5)
      = some (fieldsR 33#8 0b0110011#7 10#5 0b101#3 11#5 12#5 0b0000000#7) := by decide

theorem test_sra :
    ran (.sra 10#5 11#5 12#5)
      = some (fieldsR 34#8 0b0110011#7 10#5 0b101#3 11#5 12#5 0b0100000#7) := by decide

theorem test_or :
    ran (.or 10#5 11#5 12#5)
      = some (fieldsR 35#8 0b0110011#7 10#5 0b110#3 11#5 12#5 0b0000000#7) := by decide

theorem test_and :
    ran (.and 10#5 11#5 12#5)
      = some (fieldsR 36#8 0b0110011#7 10#5 0b111#3 11#5 12#5 0b0000000#7) := by decide

theorem test_mul :
    ran (.mul 10#5 11#5 12#5)
      = some (fieldsR 37#8 0b0110011#7 10#5 0b000#3 11#5 12#5 0b0000001#7) := by decide

theorem test_mulh :
    ran (.mulh 10#5 11#5 12#5)
      = some (fieldsR 38#8 0b0110011#7 10#5 0b001#3 11#5 12#5 0b0000001#7) := by decide

theorem test_mulhsu :
    ran (.mulhsu 10#5 11#5 12#5)
      = some (fieldsR 39#8 0b0110011#7 10#5 0b010#3 11#5 12#5 0b0000001#7) := by decide

theorem test_mulhu :
    ran (.mulhu 10#5 11#5 12#5)
      = some (fieldsR 40#8 0b0110011#7 10#5 0b011#3 11#5 12#5 0b0000001#7) := by decide

theorem test_div :
    ran (.div 10#5 11#5 12#5)
      = some (fieldsR 41#8 0b0110011#7 10#5 0b100#3 11#5 12#5 0b0000001#7) := by decide

/-- T5. -/
theorem test_divu :
    ran (.divu 10#5 11#5 12#5)
      = some (fieldsR 42#8 0b0110011#7 10#5 0b101#3 11#5 12#5 0b0000001#7) := by decide

theorem test_rem :
    ran (.rem 10#5 11#5 12#5)
      = some (fieldsR 43#8 0b0110011#7 10#5 0b110#3 11#5 12#5 0b0000001#7) := by decide

theorem test_remu :
    ran (.remu 10#5 11#5 12#5)
      = some (fieldsR 44#8 0b0110011#7 10#5 0b111#3 11#5 12#5 0b0000001#7) := by decide

/-- T6. -/
theorem test_fence :
    ran (.fence 0#5 0#5 0xF#4 0xF#4)
      = some (fieldsI 45#8 0b0001111#7 0#5 0#3 0#5 (BitVec.ofInt 32 (255))) := by decide

/-- T7. -/
theorem test_fenceTso :
    ran (.fenceTso 0#5 0#5 3#4 3#4)
      = some (fieldsI 46#8 0b0001111#7 0#5 0#3 0#5 (BitVec.ofInt 32 (-1997))) := by decide

/-- T3. -/
theorem test_ecall :
    ran (.ecall 0#5 0#5) = some (fieldsI 47#8 0b1110011#7 0#5 0#3 0#5 0#32) := by decide

/-- T2. -/
theorem test_ebreak :
    ran (.ebreak 0#5 0#5) = some (fieldsI 48#8 0b1110011#7 0#5 0#3 0#5 1#32) := by decide

/-- T8. -/
theorem test_csrrw :
    ran (.csrrw 5#5 6#5 0xC00#12)
      = some (fieldsI 49#8 0b1110011#7 5#5 0b001#3 6#5 (BitVec.ofInt 32 (-1024))) := by decide

theorem test_csrrs :
    ran (.csrrs 5#5 6#5 0xC00#12)
      = some (fieldsI 50#8 0b1110011#7 5#5 0b010#3 6#5 (BitVec.ofInt 32 (-1024))) := by decide

theorem test_csrrc :
    ran (.csrrc 5#5 6#5 0xC00#12)
      = some (fieldsI 51#8 0b1110011#7 5#5 0b011#3 6#5 (BitVec.ofInt 32 (-1024))) := by decide

theorem test_csrrwi :
    ran (.csrrwi 5#5 6#5 0xC00#12)
      = some (fieldsI 52#8 0b1110011#7 5#5 0b101#3 6#5 (BitVec.ofInt 32 (-1024))) := by decide

theorem test_csrrsi :
    ran (.csrrsi 5#5 6#5 0xC00#12)
      = some (fieldsI 53#8 0b1110011#7 5#5 0b110#3 6#5 (BitVec.ofInt 32 (-1024))) := by decide

theorem test_csrrci :
    ran (.csrrci 5#5 6#5 0xC00#12)
      = some (fieldsI 54#8 0b1110011#7 5#5 0b111#3 6#5 (BitVec.ofInt 32 (-1024))) := by decide

/-- A block whose `DISPATCH` has no row for `jal` answers the decode error of its opcode (R195). -/
theorem test_other_dispatch :
    outputsOf (exec (.jal 1#5 8#21) (State.powerUp ⟨[⟨0#8, .R, 0x33#7, none, none⟩], by decide⟩))
      = some (derrOutputs 1#3 0x06F#12) := by decide

/-! ### The boundary upstream (spec/95_test_vectors.md section 2.3, W5 to W9) -/

/-- W5; the hex by hand (R111). -/
theorem test_convert :
    convert .imm12 .i32 2047 = .ok 2047
    ∧ convert .imm12 .i32 2048 = .error ⟨2048, 32, "0x00000800".toList⟩
    ∧ convert .imm12 .i32 (-2048) = .ok (-2048)
    ∧ convert .imm12 .i32 (-2049) = .error ⟨-2049, 32, "0xfffff7ff".toList⟩ := by decide

/-- W6 and section 2.3. -/
theorem test_even_rounding :
    NarrowType.jImm.store (-128) = -128
    ∧ NarrowType.jImm.store 127 = 126
    ∧ NarrowType.jImm.store (-127) = -128
    ∧ NarrowType.bImm.store 4095 = 4094 := by decide

/-- W7 and section 2.3. -/
theorem test_negation :
    NarrowType.jImm.neg (-1048576) = -1048576
    ∧ NarrowType.jImm.neg 1048574 = -1048574
    ∧ NarrowType.imm12.neg 2047 = -2047
    ∧ NarrowType.bImm.neg (-4096) = -4096 := by decide

/-- W9; the empty string by decision D11. -/
theorem test_fence_parse :
    parseFence "riow".toList = .ok 15#4
    ∧ parseFence "rwr".toList = .error (.duplicateFlag 'r' 2)
    ∧ parseFence "iorwx".toList = .error (.invalidFlag 'x' 4)
    ∧ parseFence [] = .ok 0#4 := by decide

/-- R103, R104, R107: signed types sign-extended, `Csr` zero-extended. -/
theorem test_ports :
    NarrowType.imm12.port (-1) = 0xFFFFFFFF#32
    ∧ NarrowType.csr.port 4095 = 0x00000FFF#32
    ∧ NarrowType.jImm.port (-1048576) = 0xFFF00000#32 := by decide
/-! ### Witnesses: inputs that meet the hypotheses of each statement -/

/-- A state that presents only an operation. -/
def selecting (op : BitVec 4) : State := State.reset.present { Inputs.zero with op := op }

/-- A state that presents a word to DECODE. -/
def deciding (w : Word) : State := State.reset.present (given 0b1110#4 w)

/-- StepRunsTheSelectedOperation, ReservedOpsAreFaults and the twelve statements of the format encoders
and decoders: a state selects each operation. -/
theorem witness_select : ∀ op : BitVec 4, (selecting op).inp.op = op := by decide

theorem witness_step_runs_the_recognised_word :
    (deciding 0x41F0D093#32).inp.op = 0b1110#4
    ∧ decode (bytesOfWord (deciding 0x41F0D093#32).inp.selected)
        = .ok (.srai 1#5 1#5 31#5) := by decide

/-- An `op` value, the largest of them, the least word that is none, and a whole word. -/
theorem witness_step_runs_the_presented_table_word :
    decodeTableWord 4 0 = some .encR ∧ decodeTableWord 8 15 = some .reserved1111
    ∧ decodeTableWord 8 0x17 = some (.auipc 0#5 0#32)
    ∧ decodeTableWord 32 0xFFF00093 = some (.addi 1#5 0#5 0xFFF#12) := by decide

theorem witness_decode_of_encode :
    (Instr.jal 31#5 0x1FFFFE#21).wellFormed = true
    ∧ encode (.jal 31#5 0x1FFFFE#21) = some [0xEF#8, 0xFF#8, 0xFF#8, 0xFF#8]
    ∧ Instr.reserved1111.wellFormed = true ∧ encode .reserved1111 = some [0x0F#8] := by decide

theorem witness_encode_of_decode :
    decode [0xEF#8, 0xFF#8, 0xFF#8, 0xFF#8] = .ok (.jal 31#5 0x1FFFFE#21)
    ∧ decode [0x0F#8] = .ok .reserved1111 := by decide

/-- The least table, one row. -/
def oneRow : List Row := [⟨0#8, .R, 0x33#7, none, some ⟨.funct7, ⟨25, 32⟩, 0x7F#12⟩⟩]

/-- The greatest row count, 256. -/
def mostRows : List Row :=
  (List.range 256).map fun i =>
    ⟨BitVec.ofNat 8 i, .I, BitVec.ofNat 7 (i / 8), some (BitVec.ofNat 3 i), none⟩

theorem witness_build_takes :
    RowCount oneRow ∧ WF1 oneRow ∧ WF2 oneRow ∧ WF3 oneRow ∧ WF4 oneRow := by
  refine ⟨⟨by decide, by decide⟩, ?_, fun w => List.pairwise_singleton _ _, ?_, ?_⟩
  · intro row h sub hs
    obtain rfl := List.mem_singleton.mp h
    obtain rfl := Option.some.inj hs
    decide
  · intro w a ha b hb sa sb hsa hsb _ _ _ _
    obtain rfl := List.mem_singleton.mp ha
    obtain rfl := List.mem_singleton.mp hb
    obtain rfl := Option.some.inj (hsa.symm.trans hsb)
    exact ⟨rfl, rfl⟩
  · intro i h
    have hi : i = 0 := Nat.lt_one_iff.mp h
    subst hi
    rfl

/-- Tables that fail one condition each: no row, a range out of bounds, two rows of one word, two
kinds at one stage, an index out of place. -/
theorem witness_build_refuses :
    ¬ RowCount [] ∧ ¬ WF1 [⟨0#8, .R, 0x33#7, none, some ⟨.funct7, ⟨25, 33⟩, 0#12⟩⟩]
    ∧ ¬ WF2 [⟨0#8, .R, 0x33#7, none, none⟩, ⟨1#8, .I, 0x33#7, some 0#3, none⟩]
    ∧ ¬ WF3 [⟨0#8, .R, 0x33#7, none, some ⟨.funct7, ⟨25, 32⟩, 0#12⟩⟩,
        ⟨1#8, .R, 0x33#7, none, some ⟨.shiftMode, ⟨25, 32⟩, 1#12⟩⟩]
    ∧ ¬ WF4 [⟨1#8, .R, 0x33#7, none, none⟩] := by
  refine ⟨fun h => absurd h.1 (by decide), ?_, ?_, ?_, ?_⟩
  · intro h
    exact absurd (h _ (List.mem_singleton.mpr rfl) _ rfl).1 (by decide)
  · intro h
    exact absurd (List.pairwise_cons.mp (h 0x33#32)).1 (fun g => g _ (List.mem_singleton.mpr rfl) (by decide))
  · intro h
    exact absurd (h 0x33#32 _ (List.mem_cons_self ..) _ (List.mem_cons_of_mem _ (List.mem_singleton.mpr rfl))
      _ _ rfl rfl (by decide) (by decide) (by decide) (by decide)).1 (by decide)
  · intro h
    exact absurd (h 0 (by decide)) (by decide)

theorem witness_most_rows : dispatchWf mostRows = true := by decide +kernel

/-- Presenting a word to DECODE after power-up, to a state whose outputs are stale, and presenting an encode: each
step answers. -/
theorem witness_step_keeps_the_invariant :
    (∃ t, step (State.reset.present (given 0b1110#4 0x80000F97#32)) = .next t)
    ∧ (∃ t, step ((State.reset.drive (encodedWord 7#32)).present (given 0b1110#4 0x00000000#32)) = .next t)
    ∧ ∃ t, step (State.reset.present (fields 0b0011#4 0x63#7 0#5 0#3 1#5 2#5 0#7 (-127))) = .next t :=
  ⟨⟨_, rfl⟩, ⟨_, rfl⟩, ⟨_, rfl⟩⟩

theorem witness_outputs_are_a_function :
    State.reset.dispatch = (State.reset.drive (encodedWord 7#32)).dispatch
    ∧ State.reset.inp = (State.reset.drive (encodedWord 7#32)).inp
    ∧ outputsOf (step (selecting 13#4)) ≠ none := by
  refine ⟨rfl, rfl, by decide⟩

/-- Inputs that differ only in what the operation does not read: the immediate for ENC_R, funct7 for
ENC_I, every field for a reserved `op`, the word under `in_bytes_sel = 1` and the lanes under 0. -/
theorem witness_unread_inputs :
    readInputs (fields 0#4 0x33#7 1#5 0#3 2#5 3#5 0#7 5) = readInputs (fields 0#4 0x33#7 1#5 0#3 2#5 3#5 0#7 0)
    ∧ readInputs (fields 1#4 0x13#7 1#5 0#3 2#5 0#5 9#7 5) = readInputs (fields 1#4 0x13#7 1#5 0#3 2#5 3#5 0#7 5)
    ∧ readInputs (fields 2#4 0x23#7 1#5 0#3 2#5 3#5 0#7 5) = readInputs (fields 2#4 0x23#7 0#5 0#3 2#5 3#5 0#7 5)
    ∧ readInputs (fields 3#4 0x63#7 1#5 0#3 2#5 3#5 0#7 5) = readInputs (fields 3#4 0x63#7 0#5 0#3 2#5 3#5 0#7 5)
    ∧ readInputs (fields 4#4 0x37#7 1#5 0#3 2#5 3#5 0#7 5) = readInputs (fields 4#4 0x37#7 1#5 7#3 0#5 0#5 0#7 5)
    ∧ readInputs (fields 5#4 0x6F#7 1#5 0#3 2#5 3#5 0#7 5) = readInputs (fields 5#4 0x6F#7 1#5 7#3 0#5 0#5 0#7 5)
    ∧ readInputs (fields 15#4 0x37#7 1#5 0#3 2#5 3#5 0#7 5) = readInputs (selecting 15#4).inp
    ∧ readInputs { given 14#4 7#32 with bytesSel := 1#1 } = readInputs { given 14#4 9#32 with bytesSel := 1#1 }
    ∧ readInputs { given 8#4 7#32 with byte3 := 1#8 } = readInputs (given 8#4 7#32) := by decide

/-- A result, a decode error and a fault all have outputs. -/
theorem witness_undriven_outputs :
    outputsOf (step (deciding 0x00100073#32)) = some (fieldsI 48#8 0b1110011#7 0#5 0#3 0#5 1#32)
    ∧ outputsOf (step (deciding 0x00200073#32)) = some (derrOutputs 6#3 2#12)
    ∧ outputsOf (step (selecting 6#4)) = some { Outputs.zero with fault := 1#3 } := by decide

theorem witness_only_reserved_ops :
    reservedOp 0b0110#4 = true ∧ reservedOp 0b1111#4 = true ∧ reservedOp 0b0000#4 = false
    ∧ reservedOp 0b1110#4 = false := by decide

/-- Every kind of instruction answers a next state somewhere. -/
theorem witness_exec_frame :
    (∃ t, exec .decR State.reset = .next t) ∧ (∃ t, exec (.add 1#5 2#5 3#5) State.reset = .next t)
    ∧ (∃ t, exec (.merge []) State.reset = .next t)
    ∧ (∃ t, exec (.extract 1#32 ⟨0, 1⟩) State.reset = .next t)
    ∧ ∃ t, exec (.sext 1 1#32) State.reset = .next t :=
  ⟨⟨_, rfl⟩, ⟨_, rfl⟩, ⟨_, rfl⟩, ⟨_, rfl⟩, ⟨_, rfl⟩⟩

/-- A word of each format that a row matches. -/
theorem witness_decode_of_a_matched_word :
    ([(36, 0x00007033#32), (54, 0x0000F073#32), (17, 0x0000A023#32), (9, 0x0000F063#32), (0, 0x00000037#32),
      (2, 0x0000006F#32)].all fun (i, w) =>
        match candidateRows[i]? with
        | some row => row.matchesWord w
        | none => false) = true := by decide

theorem witness_bad_opcode :
    (candidateRows.all fun row => row.opcode != (deciding 0x7F#32).inp.selected.extractLsb' 0 7) = true := by
  decide

/-- `0x00003003`: the loads take its opcode, none takes funct3 3. -/
theorem witness_bad_funct3 :
    (candidateRows.any fun row => row.opcode == (0x00003003#32).extractLsb' 0 7) = true
    ∧ (candidateRows.all fun row => row.opcode != (0x00003003#32).extractLsb' 0 7
        || (row.funct3.isSome && row.funct3 != some ((0x00003003#32).extractLsb' 12 3))) = true := by decide

/-- A word for each kind of sub-field, and a row with a sub-field that takes every funct3. -/
theorem witness_bad_sub_field :
    ([0x40001033#32, 0x1000000F#32, 0x02001013#32, 0x30200073#32].all fun w =>
      (candidateRows.any fun row => row.sub.isSome && row.opcode == w.extractLsb' 0 7
        && row.funct3 == some (w.extractLsb' 12 3))
      && candidateRows.all fun row => !row.matchesWord w) = true
    ∧ (oneRow.all fun row => row.funct3 == none && row.sub.isSome && row.opcode == 0x33#7
        && !row.matchesWord 0x33#32) = true := by decide

theorem witness_decode_succeeds :
    (candidateRows.any fun row => row.matchesWord (deciding 0x00100073#32).inp.selected) = true
    ∧ (candidateRows.any fun row => row.matchesWord (deciding 0x00200073#32).inp.selected) = false := by decide

/-- CandidateRejectsWhatTheDecoderRejects and the nine statements of the mnemonics' results: a block
built with the candidate. -/
theorem witness_candidate :
    State.reset.dispatch = candidateDispatch ∧ (deciding 0x30200073#32).dispatch = candidateDispatch := ⟨rfl, rfl⟩

theorem witness_classified :
    CallerDuties (State.reset.present (given 0b1001#4 0x7FFF8F13#32))
    ∧ decodeFormat (State.reset.present (given 0b1001#4 0x7FFF8F13#32)).inp.op = some .I := by
  refine ⟨⟨by decide, fun f h => ?_, fun f h => ?_⟩, by decide⟩
  · exact absurd h (by cases f <;> decide)
  · have hf : f = .I := by cases f <;> first | rfl | exact absurd h (by decide)
    subst hf
    exact ⟨candidateRows[18]'(by decide), List.getElem_mem _, by decide, by decide⟩

theorem witness_mnemonics :
    encodeWord (.ebreak 0#5 0#5) = some 0x00100073#32
    ∧ (given 0b1110#4 0x00100073#32).selected = 0x00100073#32 := by decide

/-- A table whose fields touch at their ends, and one for each check a table fails. -/
theorem witness_merge :
    GoodTable [⟨⟨0, 16⟩, 0x12345678#32, ⟨16, 32⟩⟩, ⟨⟨16, 32⟩, 0x12345678#32, ⟨0, 16⟩⟩]
    ∧ ¬ GoodTable [⟨⟨0, 5⟩, 7#32, ⟨0, 4⟩⟩] ∧ ¬ GoodTable [⟨⟨30, 33⟩, 7#32, ⟨0, 3⟩⟩]
    ∧ ¬ GoodTable [⟨⟨0, 5⟩, 7#32, ⟨0, 5⟩⟩, ⟨⟨4, 6⟩, 7#32, ⟨4, 6⟩⟩] := by
  simp [GoodTable, BitRange.len, BitRange.ok]

/-- MergeIsOrderFreeAndPlacesEachField and ExtractUndoesMerge. -/
theorem witness_merged_word :
    merge [⟨⟨0, 16⟩, 0x12345678#32, ⟨16, 32⟩⟩, ⟨⟨16, 32⟩, 0x12345678#32, ⟨0, 16⟩⟩] = .ok 0x56781234#32
    ∧ [1, 2].Perm [2, 1] := by decide

/-- The ends of the range: the lowest bit, the highest, the whole word; and ranges just past them. -/
theorem witness_extract :
    ([⟨0, 1⟩, ⟨31, 32⟩, ⟨0, 32⟩] : List BitRange).all BitRange.ok = true
    ∧ ([⟨-1, 1⟩, ⟨31, 33⟩, ⟨5, 5⟩, ⟨6, 5⟩] : List BitRange).any BitRange.ok = false := by decide

theorem witness_sext :
    (1 ≤ 1 ∧ 1 ≤ 31) ∧ (1 ≤ 31 ∧ 31 ≤ 31) ∧ ¬ (1 ≤ 0 ∧ 0 ≤ 31) ∧ ¬ (1 ≤ 32 ∧ 32 ≤ 31) := by decide

/-- For every format an operation selects it and its port contract admits the ends of its range. -/
theorem witness_decoding_encoded_fields :
    ([Fmt.R, .I, .S, .B, .U, .J].all fun f => (selecting (encodeSelect f)).inp.op == encodeSelect f) = true
    ∧ immOk .R 0xFFFFFFFF#32 = true ∧ immOk .I 0xFFFFF800#32 = true ∧ immOk .I 0x00000FFF#32 = true
    ∧ immOk .S 0x000007FF#32 = true ∧ immOk .B 0xFFFFF000#32 = true ∧ immOk .B 0x00000FFF#32 = true
    ∧ immOk .U 0xFFFFF000#32 = true ∧ immOk .J 0xFFF00000#32 = true ∧ immOk .J 0x000FFFFF#32 = true := by
  decide

theorem witness_byte_lanes :
    step (selecting 1#4) = .next ((selecting 1#4).drive (encodedWord 0#32))
    ∧ { given 14#4 7#32 with bytesSel := 1#1 }.bytesSel = 1#1
    ∧ { given 14#4 7#32 with bytesSel := 1#1 }.byte0 = (encodedWord 0#32).byte0
    ∧ (given 14#4 7#32).bytesSel = 0#1 := by
  refine ⟨rfl, by decide, by decide, by decide⟩

/-- NarrowTypeDomains and RoundingClearsBitZero: the ends of each acceptance set, and the values just past. -/
theorem witness_domains :
    ([(NarrowType.register, 0, 31), (.uimm5, 0, 31), (.imm12, -2048, 2047), (.csr, 0, 4095), (.fenceMask, 0, 15),
      (.bImm, -4096, 4095), (.jImm, -1048576, 1048575)].all fun (t, lo, hi) =>
        t.accepts lo && t.accepts hi && !t.accepts (lo - 1) && !t.accepts (hi + 1)) = true := by decide

theorem witness_negation :
    NarrowType.bImm.signed = true ∧ NarrowType.bImm.legal (-4096) = true ∧ NarrowType.bImm.legal 4094 = true
    ∧ NarrowType.imm12.legal (-2048) = true ∧ NarrowType.jImm.legal 1048574 = true := by decide

theorem witness_conversions :
    NarrowType.imm12.accepts 2047 = true ∧ NarrowType.imm12.accepts 2048 = false
    ∧ NativeType.i8.holds (-128) = true ∧ NativeType.i8.holds 128 = false
    ∧ infallible .jImm .i16 = true ∧ infallible .imm12 .i16 = false := by decide

/-- FenceMaskParsing: each of the three outcomes, and a character that is no flag. -/
theorem witness_fence_mask :
    parseFence ['r', 'i', 'o', 'w'] = .ok 15#4
    ∧ parseFence ['x'] = .error (.invalidFlag 'x' 0)
    ∧ parseFence ['r', 'r'] = .error (.duplicateFlag 'r' 1)
    ∧ 'x' ≠ 'i' ∧ 'x' ≠ 'o' ∧ 'x' ≠ 'r' ∧ 'x' ≠ 'w' ∧ fenceFlag 'x' = none := by decide

/-- PortContractIsTheImmediateDomain: patterns in and out of the contract. -/
theorem witness_port_contract :
    immOk .I 0x00001000#32 = false ∧ immOk .S 0x00000800#32 = false ∧ immOk .B 0x00001000#32 = false
    ∧ immOk .U 0x00000FFF#32 = false ∧ immOk .J 0x00100000#32 = false
    ∧ NarrowType.jImm.accepts 1048575 = true := by decide

end Sys2Proof.Tests
end

/-!
PROOFS. The state family (spec/10_state.md): one evaluation as one function of the parameter and the
inputs, what that function can answer, and which inputs it reads.
-/

/-! ### Which checks of MERGE and EXTRACT pass -/

namespace Sys2Proof

/-- The spec's two ranges, its value put to 0. -/
def BitFieldSpec.blank (sp : BitFieldSpec) : BitFieldSpec := { sp with value := 0 }

/-- R122: the merge loop's checks read no value, neither a spec's nor the accumulator's. -/
theorem passes_mergeFrom_map_blank (specs : List BitFieldSpec) : ∀ acc acc' visited : Word,
    passes (mergeFrom acc visited specs)
      = passes (mergeFrom acc' visited (specs.map BitFieldSpec.blank)) := by
  induction specs with
  | nil => intros; rfl
  | cons sp rest ih =>
    intro acc acc' visited
    simp only [List.map_cons, mergeFrom, BitFieldSpec.blank]
    split_ifs
    · rfl
    · rfl
    · rfl
    · exact ih ..

/-- R127: whether a table passes is a matter of its ranges alone. -/
theorem passes_merge_congr {specs specs' : List BitFieldSpec}
    (h : specs.map BitFieldSpec.blank = specs'.map BitFieldSpec.blank) :
    passes (merge specs) = passes (merge specs') := by
  unfold merge
  rw [passes_mergeFrom_map_blank specs 0 0, h, ← passes_mergeFrom_map_blank specs' 0 0]

theorem exists_ok_of_passes {r : Except FaultCode Word} (h : passes r = true) : ∃ w, r = .ok w := by
  cases r with
  | ok w => exact ⟨w, rfl⟩
  | error c => cases h

/-- R241: a table that passes on one input passes on every other. -/
theorem merge_ok_of_blank_eq {specs : List BitFieldSpec} (specs' : List BitFieldSpec)
    (h : specs.map BitFieldSpec.blank = specs'.map BitFieldSpec.blank)
    (hpass : passes (merge specs') = true) : ∃ w, merge specs = .ok w :=
  exists_ok_of_passes ((passes_merge_congr h).trans hpass)

/-- R191 (WF1): the range of every sub-field of a well-formed `DISPATCH` passes EXTRACT's check. -/
theorem Dispatch.sub_range_ok (d : Dispatch) {row : Row} {sub : SubField} (hrow : row ∈ d.rows)
    (hsub : row.sub = some sub) : sub.range.ok = true := by
  have hwf := d.wellFormed
  simp only [dispatchWf, Bool.and_eq_true, List.all_eq_true] at hwf
  obtain ⟨⟨⟨-, hshape⟩, -⟩, -⟩ := hwf
  have hrowOk := hshape row hrow
  simp only [Row.shapeOk, hsub, Bool.and_eq_true] at hrowOk
  exact hrowOk.1.1

end Sys2Proof

namespace Sys2Proof.Machine

/-! ### The classes of `op` values -/

/-- R61: the six formats. -/
def formats : List Fmt := [.R, .I, .S, .B, .U, .J]

/-- R62: the three reserved values. -/
theorem reservedOp_iff {op : BitVec 4} :
    reservedOp op = true ↔ op = 0b0110#4 ∨ op = 0b0111#4 ∨ op = 0b1111#4 := by
  simp [reservedOp, or_assoc]

/-- R60: every `op` value selects a format encoder, a format decoder or DECODE, or is reserved. -/
theorem op_cases (op : BitVec 4) :
    (∃ f, op = encodeSelect f) ∨ (∃ f, op = decodeSelect f) ∨ op = 0b1110#4
      ∨ reservedOp op = true := by
  have listed : ∀ op : BitVec 4,
      (∃ f ∈ formats, op = encodeSelect f) ∨ (∃ f ∈ formats, op = decodeSelect f) ∨ op = 0b1110#4
        ∨ reservedOp op = true := by decide
  obtain ⟨f, -, h⟩ | ⟨f, -, h⟩ | h := listed op
  · exact .inl ⟨f, h⟩
  · exact .inr (.inl ⟨f, h⟩)
  · exact .inr (.inr h)

/-- R150: the range table `T_f`. -/
def encodeTable : Fmt → Inputs → List BitFieldSpec
  | .R => tableR
  | .I => tableI
  | .S => tableS
  | .B => tableB
  | .U => tableU
  | .J => tableJ

/-! ### One evaluation as a function -/

/-- R20: what one evaluation computes from the parameter's rows and the inputs; it reads no other part
of the state. -/
def evaluation (rows : List Row) (i : Inputs) : Except FaultCode Outputs :=
  match encodeFormat i.op, decodeFormat i.op with
  | some f, _ => encodeOutputs (encodeTable f i)
  | none, some f => decFields f i.selected
  | none, none => if reservedOp i.op then .error .reservedOp else decodeOutputs rows i.selected

section
variable {rows : List Row} {i : Inputs} {f : Fmt}

theorem evaluation_encode (h : i.op = encodeSelect f) :
    evaluation rows i = encodeOutputs (encodeTable f i) := by
  unfold evaluation
  rw [h]
  cases f <;> rfl

theorem evaluation_decodeFormat (h : i.op = decodeSelect f) :
    evaluation rows i = decFields f i.selected := by
  unfold evaluation
  rw [h]
  cases f <;> rfl

theorem evaluation_decode (h : i.op = 0b1110#4) : evaluation rows i = decodeOutputs rows i.selected := by
  unfold evaluation
  rw [h]
  rfl

theorem evaluation_reserved (h : reservedOp i.op = true) :
    evaluation rows i = .error .reservedOp := by
  unfold evaluation
  obtain h | h | h := reservedOp_iff.mp h <;> rw [h] <;> rfl

end

/-- A step is the evaluation of the state's own parameter and inputs. -/
theorem step_eq_finish_evaluation (s : State) : step s = finish s (evaluation s.dispatch.rows s.inp) := by
  unfold step State.fetch
  obtain ⟨f, h⟩ | ⟨f, h⟩ | h | h := op_cases s.inp.op
  · rw [evaluation_encode h, h]
    cases f <;> rfl
  · rw [evaluation_decodeFormat h, h]
    cases f <;> rfl
  · rw [evaluation_decode h, h]
    rfl
  · rw [evaluation_reserved h]
    obtain h | h | h := reservedOp_iff.mp h <;> rw [h] <;> rfl

/-- The outputs of an evaluation do not depend on the state that it drives them into. -/
theorem outputsOf_finish (s s' : State) (r : Except FaultCode Outputs) :
    outputsOf (finish s r) = outputsOf (finish s' r) := by
  cases r <;> rfl

/-! ### Encoders and format decoders always answer -/

/-- R157: the six tables pass on inputs 0, so they pass on every input. -/
theorem merge_encodeTable (f : Fmt) (i : Inputs) : ∃ w, merge (encodeTable f i) = .ok w := by
  have hblank : (encodeTable f i).map BitFieldSpec.blank
      = (encodeTable f .zero).map BitFieldSpec.blank := by cases f <;> rfl
  have hpass : passes (merge (encodeTable f .zero)) = true := by cases f <;> decide
  exact merge_ok_of_blank_eq _ hblank hpass

theorem encodeOutputs_encodeTable (f : Fmt) (i : Inputs) :
    ∃ w, encodeOutputs (encodeTable f i) = .ok (wordOutputs w) :=
  let ⟨w, h⟩ := merge_encodeTable f i
  ⟨w, encodeOutputs_of_merge h⟩

/-- R170: the outputs of format `f` with this mnemonic index and the format's fields of `o`, every other
output 0. -/
def formatOutputs (f : Fmt) (mnem : BitVec 8) (o : Outputs) : Outputs :=
  match f with
  | .R => fieldsR mnem o.opcode o.rd o.funct3 o.rs1 o.rs2 o.funct7
  | .I => fieldsI mnem o.opcode o.rd o.funct3 o.rs1 o.imm
  | .S => fieldsS mnem o.opcode o.funct3 o.rs1 o.rs2 o.imm
  | .B => fieldsB mnem o.opcode o.funct3 o.rs1 o.rs2 o.imm
  | .U => fieldsU mnem o.opcode o.rd o.imm
  | .J => fieldsJ mnem o.opcode o.rd o.imm

/-- R177: every word has fields in every format, for the EXTRACT ranges and SEXT widths are constants
that pass and the immediate's table passes on word 0. -/
theorem decFields_ok (f : Fmt) (w : Word) : ∃ o, decFields f w = .ok o ∧ o = formatOutputs f 0 o := by
  cases f with
  | R => exact ⟨_, rfl, rfl⟩
  | I => exact ⟨_, rfl, rfl⟩
  | S =>
    obtain ⟨raw, hraw⟩ := merge_ok_of_blank_eq (specs := immTableS w) (immTableS 0) rfl (by decide)
    simp only [decFields, decFieldsS, hraw]
    exact ⟨_, rfl, rfl⟩
  | B =>
    obtain ⟨raw, hraw⟩ := merge_ok_of_blank_eq (specs := immTableB w) (immTableB 0) rfl (by decide)
    simp only [decFields, decFieldsB, hraw]
    exact ⟨_, rfl, rfl⟩
  | U =>
    obtain ⟨imm, himm⟩ := merge_ok_of_blank_eq (specs := immTableU w) (immTableU 0) rfl (by decide)
    simp only [decFields, decFieldsU, himm]
    exact ⟨_, rfl, rfl⟩
  | J =>
    obtain ⟨raw, hraw⟩ := merge_ok_of_blank_eq (specs := immTableJ w) (immTableJ 0) rfl (by decide)
    simp only [decFields, decFieldsJ, hraw]
    exact ⟨_, rfl, rfl⟩

/-! ### DECODE always answers -/

/-- R195: the last stage answers a row or a decode error when its range passes. -/
theorem selectBySub_total (rows : List Row) {first : SubField} (h : first.range.ok = true)
    (w : Word) : ∃ r, selectBySub rows first w = .ok r := by
  simp only [selectBySub, extract_of_ok h, bind, Except.bind]
  split <;> exact ⟨_, rfl⟩

/-- R195: with a well-formed `DISPATCH` the stages answer a row or a decode error for every word. -/
theorem selectRow_total (d : Dispatch) (w : Word) : ∃ r, selectRow d.rows w = .ok r := by
  simp only [selectRow, extract_rng w (show (rng 0 7).ok = true by decide),
    extract_rng w (show (rng 12 15).ok = true by decide), bind, Except.bind]
  split
  · exact ⟨_, rfl⟩
  split
  · exact ⟨_, rfl⟩
  next row rest hrows =>
  split
  · exact ⟨_, rfl⟩
  next first more hsubs =>
  have hfirst : first ∈ (row :: rest).filterMap Row.sub := hsubs ▸ List.mem_cons_self ..
  obtain ⟨a, ha, hsub⟩ := List.mem_filterMap.mp hfirst
  rw [← hrows] at ha
  have hrow : a ∈ d.rows := List.mem_of_mem_filter (List.mem_of_mem_filter ha)
  exact selectBySub_total _ (d.sub_range_ok hrow hsub) w

/-- R195, R196: DECODE answers a decode error's outputs or, for some row, those of the row's format with
its index. -/
theorem decodeOutputs_cases (d : Dispatch) (w : Word) :
    (∃ e, decodeOutputs d.rows w = .ok (DecodeError.outputs e))
      ∨ ∃ (row : Row) (o : Outputs),
          decodeOutputs d.rows w = .ok (formatOutputs row.fmt row.idx o) := by
  obtain ⟨r, hr⟩ := selectRow_total d w
  simp only [decodeOutputs, hr, bind, Except.bind]
  cases r with
  | error e => exact .inl ⟨e, rfl⟩
  | ok row =>
    obtain ⟨o, ho, hfmt⟩ := decFields_ok row.fmt w
    refine .inr ⟨row, o, ?_⟩
    simp only [ho]
    rw [hfmt]
    cases row.fmt <;> rfl

/-! ### What each class of operations drives -/

theorem drivenOutputs_wordOutputs (f : Fmt) (w : Word) :
    drivenOutputs (encodeSelect f) (wordOutputs w) = wordOutputs w := by
  cases f <;> rfl

theorem drivenOutputs_formatOutputs (f : Fmt) (o : Outputs) :
    drivenOutputs (decodeSelect f) (formatOutputs f 0 o) = formatOutputs f 0 o := by
  cases f <;> rfl

theorem drivenOutputs_decode_formatOutputs (f : Fmt) (m : BitVec 8) (o : Outputs) :
    drivenOutputs 0b1110#4 (formatOutputs f m o) = formatOutputs f m o := by
  cases f <;> rfl

/-- R197: the kind code of a decode error is never 0, so its outputs are told from a result's. -/
theorem drivenOutputs_decodeError (e : DecodeError) : drivenOutputs 0b1110#4 e.outputs = e.outputs := by
  obtain ⟨kind, bits⟩ := e
  cases kind with
  | opcode => rfl
  | funct3 => rfl
  | sub k => cases k <;> rfl

theorem drivenOutputs_reservedOutputs {op : BitVec 4} (h : reservedOp op = true) :
    drivenOutputs op reservedOutputs = reservedOutputs := by
  obtain rfl | rfl | rfl := reservedOp_iff.mp h <;> rfl

/-- R23, R213: with a well-formed `DISPATCH` every evaluation either is the fault of a reserved `op` or
answers outputs that are 0 wherever the operation does not drive them. -/
theorem evaluation_cases (d : Dispatch) (i : Inputs) :
    (reservedOp i.op = true ∧ evaluation d.rows i = .error .reservedOp)
      ∨ ∃ o, evaluation d.rows i = .ok o ∧ drivenOutputs i.op o = o := by
  obtain ⟨f, h⟩ | ⟨f, h⟩ | h | h := op_cases i.op
  · obtain ⟨w, hw⟩ := encodeOutputs_encodeTable f i
    exact .inr ⟨_, (evaluation_encode h).trans hw, h ▸ drivenOutputs_wordOutputs f w⟩
  · obtain ⟨o, ho, hfmt⟩ := decFields_ok f i.selected
    refine .inr ⟨o, (evaluation_decodeFormat h).trans ho, ?_⟩
    rw [h, hfmt, drivenOutputs_formatOutputs]
  · rw [evaluation_decode h, h]
    obtain ⟨e, he⟩ | ⟨row, o, ho⟩ := decodeOutputs_cases d i.selected
    · exact .inr ⟨_, he, drivenOutputs_decodeError e⟩
    · exact .inr ⟨_, ho, drivenOutputs_decode_formatOutputs row.fmt row.idx o⟩
  · exact .inl ⟨h, evaluation_reserved h⟩

/-- R23: every step has outputs, and they are 0 wherever the selected operation does not drive them. -/
theorem outputsOf_step (s : State) :
    ∃ o, outputsOf (step s) = some o ∧ drivenOutputs s.inp.op o = o := by
  rw [step_eq_finish_evaluation]
  obtain ⟨h, he⟩ | ⟨o, ho, hdriven⟩ := evaluation_cases s.dispatch s.inp
  · exact ⟨reservedOutputs, by rw [he]; rfl, drivenOutputs_reservedOutputs h⟩
  · exact ⟨o, by rw [ho]; rfl, hdriven⟩

/-! ### What each class of operations reads -/

theorem readInputs_op (i : Inputs) : (readInputs i).op = i.op := by
  unfold readInputs
  split
  rotate_right
  · split <;> rfl
  all_goals rfl

theorem encodeTable_readInputs {f : Fmt} {i : Inputs} (h : i.op = encodeSelect f) :
    encodeTable f (readInputs i) = encodeTable f i := by
  unfold readInputs
  rw [h]
  cases f <;> rfl

/-- R42: a decode operation reads the byte lanes or the word, as `in_bytes_sel` says. -/
theorem readInputs_of_decode {i : Inputs} (h : (∃ f, i.op = decodeSelect f) ∨ i.op = 0b1110#4) :
    readInputs i =
      if i.bytesSel = 1#1 then
        { Inputs.zero with
          op := i.op, bytesSel := 1#1, byte0 := i.byte0, byte1 := i.byte1, byte2 := i.byte2
          byte3 := i.byte3 }
      else { Inputs.zero with op := i.op, word := i.word } := by
  unfold readInputs
  obtain ⟨f, h⟩ | h := h
  · rw [h]
    cases f <;> rfl
  · rw [h]
    rfl

/-- R42: what a decode operation reads determines the word it decodes. -/
theorem selected_readInputs {i : Inputs} (h : (∃ f, i.op = decodeSelect f) ∨ i.op = 0b1110#4) :
    (readInputs i).selected = i.selected := by
  rw [readInputs_of_decode h]
  by_cases hsel : i.bytesSel = 1#1
  · simp [Inputs.selected, hsel]
  · simp [Inputs.selected, hsel, Inputs.zero]

/-- R24: an evaluation is one of the inputs that its operation reads. -/
theorem evaluation_readInputs (rows : List Row) (i : Inputs) :
    evaluation rows (readInputs i) = evaluation rows i := by
  have hop := readInputs_op i
  obtain ⟨f, h⟩ | ⟨f, h⟩ | h | h := op_cases i.op
  · rw [evaluation_encode (hop.trans h), evaluation_encode h, encodeTable_readInputs h]
  · rw [evaluation_decodeFormat (hop.trans h), evaluation_decodeFormat h,
      selected_readInputs (.inl ⟨f, h⟩)]
  · rw [evaluation_decode (hop.trans h), evaluation_decode h, selected_readInputs (.inr h)]
  · rw [evaluation_reserved (hop ▸ h), evaluation_reserved h]

/-! ### The statements -/

/-- Settles O11: a step is one function of the parameter and the inputs, which always answers outputs. -/
theorem outputsAreAFunctionOfTheInputs : Obligations.OutputsAreAFunctionOfTheInputs := by
  unfold Obligations.OutputsAreAFunctionOfTheInputs
  constructor
  · intro s s' hd hi
    obtain ⟨o, ho, -⟩ := outputsOf_step s
    refine ⟨o, ho, ?_⟩
    rw [step_eq_finish_evaluation] at ho ⊢
    rw [← hd, ← hi, outputsOf_finish s' s, ho]
  · intro s t h
    rw [step_eq_finish_evaluation] at h
    obtain ⟨o, ho, rfl⟩ := finish_next h
    rw [step_eq_finish_evaluation, State.drive_dispatch, State.drive_inp, ho, finish_ok, State.drive_drive]

/-- Settles O12: an evaluation is the same on the inputs and on what the operation reads of them. -/
theorem unreadInputsHaveNoEffect : Obligations.UnreadInputsHaveNoEffect := by
  unfold Obligations.UnreadInputsHaveNoEffect
  intro s i h
  have heval : evaluation s.dispatch.rows i = evaluation s.dispatch.rows s.inp := by
    rw [← evaluation_readInputs, h, evaluation_readInputs]
  rw [step_eq_finish_evaluation, step_eq_finish_evaluation, State.present_dispatch, State.present_inp, heval,
    outputsOf_finish]

/-- Settles O13: by class of operation, a result, a decode error or a reserved `op`. -/
theorem undrivenOutputsAreZero : Obligations.UndrivenOutputsAreZero := by
  unfold Obligations.UndrivenOutputsAreZero
  intro s o h
  obtain ⟨p, hp, hdriven⟩ := outputsOf_step s
  obtain rfl : p = o := Option.some.inj (hp.symm.trans h)
  exact hdriven.symm

end Sys2Proof.Machine

/-!
PROOFS. The memory family (spec/20_memory.md): the byte lanes in storage order. The three shapes of the
outputs that an evaluation answers, the lanes of each shape, and a word put together again from its lanes.
-/

namespace Sys2Proof.Machine

/-! ### A word and its bytes -/

/-- R41, R42: the bytes of a word in storage order make that word. -/
theorem wordOfBytes_extractLsb' (w : Word) :
    wordOfBytes (w.extractLsb' 0 8) (w.extractLsb' 8 8) (w.extractLsb' 16 8) (w.extractLsb' 24 8) = w := by
  unfold wordOfBytes
  rw [BitVec.extractLsb'_append_extractLsb'_eq_extractLsb' (show 24 = 16 + 8 from rfl),
    BitVec.extractLsb'_append_extractLsb'_eq_extractLsb' (show 16 = 8 + 8 from rfl),
    BitVec.extractLsb'_append_extractLsb'_eq_extractLsb' (show 8 = 0 + 8 from rfl)]
  exact BitVec.extractLsb'_eq_self

/-- R42: with `in_bytes_sel = 1` the word read is made of the input lanes. -/
theorem selected_of_bytesSel_one {i : Inputs} (h : i.bytesSel = 1#1) :
    i.selected = wordOfBytes i.byte0 i.byte1 i.byte2 i.byte3 := if_pos h

/-- R42: with `in_bytes_sel = 0` the word read is `in_word`. -/
theorem selected_of_bytesSel_zero {i : Inputs} (h : i.bytesSel = 0#1) : i.selected = i.word :=
  if_neg (by rw [h]; decide)

/-! ### The output lanes of every evaluation -/

/-- R150, R170, R197: an evaluation that answers outputs answers those of an encoded word, of a format's
fields or of a decode error. -/
theorem evaluation_ok_cases (d : Dispatch) {i : Inputs} {o : Outputs}
    (h : evaluation d.rows i = .ok o) :
    (∃ w, o = wordOutputs w) ∨ (∃ f m p, o = formatOutputs f m p)
      ∨ ∃ e, o = DecodeError.outputs e := by
  obtain ⟨f, hop⟩ | ⟨f, hop⟩ | hop | hop := op_cases i.op
  · rw [evaluation_encode hop] at h
    obtain ⟨w, hw⟩ := encodeOutputs_encodeTable f i
    exact .inl ⟨w, Except.ok.inj (h.symm.trans hw)⟩
  · rw [evaluation_decodeFormat hop] at h
    obtain ⟨p, hp, hfmt⟩ := decFields_ok f i.selected
    obtain rfl : o = p := Except.ok.inj (h.symm.trans hp)
    exact .inr (.inl ⟨f, 0, o, hfmt⟩)
  · rw [evaluation_decode hop] at h
    obtain ⟨e, he⟩ | ⟨row, p, hp⟩ := decodeOutputs_cases d i.selected
    · exact .inr (.inr ⟨e, Except.ok.inj (h.symm.trans he)⟩)
    · exact .inr (.inl ⟨row.fmt, row.idx, p, Except.ok.inj (h.symm.trans hp)⟩)
  · rw [evaluation_reserved hop] at h
    cases h

/-- R41: the output lanes are the bytes of the output word in storage order. -/
def Outputs.LanesCarryWord (o : Outputs) : Prop :=
  o.byte0 = o.word.extractLsb' 0 8 ∧ o.byte1 = o.word.extractLsb' 8 8
    ∧ o.byte2 = o.word.extractLsb' 16 8 ∧ o.byte3 = o.word.extractLsb' 24 8

theorem wordOutputs_lanes (w : Word) : (wordOutputs w).LanesCarryWord := ⟨rfl, rfl, rfl, rfl⟩

/-- The lanes of word 0. -/
theorem zero_lanes : Outputs.zero.LanesCarryWord := by
  unfold Outputs.LanesCarryWord
  decide

/-- R170: a format decoder drives neither the word nor the lanes. -/
theorem formatOutputs_lanes (f : Fmt) (m : BitVec 8) (p : Outputs) :
    (formatOutputs f m p).LanesCarryWord := by
  cases f <;> exact zero_lanes

/-- R197: a decode error drives neither the word nor the lanes. -/
theorem decodeError_lanes (e : DecodeError) : e.outputs.LanesCarryWord := zero_lanes

/-- R41: the lanes carry the word in every next state. -/
theorem step_next_lanes {s t : State} (h : step s = .next t) : t.out.LanesCarryWord := by
  rw [step_eq_finish_evaluation] at h
  obtain ⟨o, ho, rfl⟩ := finish_next h
  rw [State.drive_out]
  obtain ⟨w, rfl⟩ | ⟨f, m, p, rfl⟩ | ⟨e, rfl⟩ := evaluation_ok_cases s.dispatch ho
  · exact wordOutputs_lanes w
  · exact formatOutputs_lanes f m p
  · exact decodeError_lanes e

/-- R41, R42: a word's output lanes presented as input lanes are read as that word. -/
theorem selected_of_lanes {i : Inputs} {o : Outputs} (ho : o.LanesCarryWord) (hsel : i.bytesSel = 1#1)
    (h0 : i.byte0 = o.byte0) (h1 : i.byte1 = o.byte1) (h2 : i.byte2 = o.byte2)
    (h3 : i.byte3 = o.byte3) : i.selected = o.word := by
  obtain ⟨l0, l1, l2, l3⟩ := ho
  rw [selected_of_bytesSel_one hsel, h0, h1, h2, h3, l0, l1, l2, l3, wordOfBytes_extractLsb']

/-! ### The statement -/

/-- Settles O53: every evaluation's lanes are its word's bytes, and those bytes make the word again. -/
theorem byteLanesCarryTheWord : Obligations.ByteLanesCarryTheWord := by
  unfold Obligations.ByteLanesCarryTheWord
  exact ⟨fun _ _ h => step_next_lanes h, fun _ h => selected_of_bytesSel_one h,
    fun _ h => selected_of_bytesSel_zero h,
    fun _ _ _ h hsel h0 h1 h2 h3 => selected_of_lanes (step_next_lanes h) hsel h0 h1 h2 h3⟩

end Sys2Proof.Machine

/-!
PROOFS. The encoding family (spec/30_encoding.md): which operation a step runs, what the three kinds of
instruction (an `op` value, an instruction word, a sub-unit) evaluate, and so what each leaves unchanged.
-/

namespace Sys2Proof.Machine

/-! ### The selected operation -/

/-- R60: a step runs the operation that the presented `op` value is assigned. -/
theorem step_of_op {s : State} {op : BitVec 4} (h : s.inp.op = op) : step s = exec (decodeOp op) s := by
  rw [step, State.fetch, h]

/-- R62: a step with a reserved `op` is the fault, whatever else the inputs are. -/
theorem step_reserved {s : State} (h : reservedOp s.inp.op = true) : step s = .fault .reservedOp := by
  rw [step_eq_finish_evaluation, evaluation_reserved h, finish_error, faultOf]

/-! ### What each kind of instruction evaluates -/

/-- R60 and R63: every instruction has an `op` value or a word, or is one of the three sub-units. -/
theorem instr_cases (i : Instr) :
    (∃ op, encodeOp i = some op) ∨ (∃ w, encodeWord i = some w)
      ∨ (∃ specs, i = .merge specs) ∨ (∃ w r, i = .extract w r) ∨ ∃ k v, i = .sext k v := by
  cases hop : encodeOp i with
  | some op => exact .inl ⟨op, rfl⟩
  | none =>
    cases hword : encodeWord i with
    | some w => exact .inr (.inl ⟨w, rfl⟩)
    | none =>
      refine .inr (.inr ?_)
      cases i with
      | merge specs => exact .inl ⟨specs, rfl⟩
      | extract w r => exact .inr (.inl ⟨w, r, rfl⟩)
      | sext k v => exact .inr (.inr ⟨k, v, rfl⟩)
      | encR | encI | encS | encB | encU | encJ | decR | decI | decS | decB | decU | decJ | decode
      | reserved0110 | reserved0111 | reserved1111 => cases hop
      | _ => cases hword

/-- R60: the instruction of an `op` value is the evaluation of the inputs with that value on `op`. -/
theorem exec_of_encodeOp {i : Instr} {op : BitVec 4} (h : encodeOp i = some op) (s : State) :
    exec i s = finish s (evaluation s.dispatch.rows { s.inp with op := op }) := by
  cases i <;> cases h <;> rfl

/-- R195: a mnemonic is DECODE of its word by the block's own parameter. -/
theorem exec_of_encodeWord {i : Instr} {w : Word} (h : encodeWord i = some w) (s : State) :
    exec i s = recognise w s := by
  cases i <;> cases h <;> rfl

/-- R63: an instruction that is no sub-unit answers as an evaluation of the block does. -/
theorem exec_eq_finish {i : Instr} (hmerge : ∀ specs, i ≠ .merge specs)
    (hextract : ∀ w r, i ≠ .extract w r) (hsext : ∀ k v, i ≠ .sext k v) (s : State) :
    ∃ r, exec i s = finish s r := by
  obtain ⟨op, h⟩ | ⟨w, h⟩ | ⟨specs, h⟩ | ⟨w, r, h⟩ | ⟨k, v, h⟩ := instr_cases i
  · exact ⟨_, exec_of_encodeOp h s⟩
  · exact ⟨_, exec_of_encodeWord h s⟩
  · exact absurd h (hmerge specs)
  · exact absurd h (hextract w r)
  · exact absurd h (hsext k v)

/-! ### What each kind of evaluation leaves unchanged -/

section
variable {s t : State}

theorem finish_frame {r : Except FaultCode Outputs} (h : finish s r = .next t) :
    t.inp = s.inp ∧ t.dispatch = s.dispatch ∧ t.subOut = s.subOut := by
  obtain ⟨o, -, rfl⟩ := finish_next h
  exact ⟨s.drive_inp o, s.drive_dispatch o, s.drive_subOut o⟩

theorem finishSub_frame {r : Except FaultCode Word} (h : finishSub s r = .next t) :
    t.inp = s.inp ∧ t.dispatch = s.dispatch ∧ t.out = s.out := by
  obtain ⟨w, -, rfl⟩ := finishSub_next h
  exact ⟨s.setSub_inp w, s.setSub_dispatch w, s.setSub_out w⟩

end

/-! ### The statements -/

/-- Settles O15: a sub-unit only sets the sub-unit result, every other instruction only drives outputs. -/
theorem execFrame : Obligations.ExecFrame := by
  unfold Obligations.ExecFrame
  intro i s t h
  split
  · exact finishSub_frame h
  · exact finishSub_frame h
  · exact finishSub_frame h
  next hmerge hextract hsext =>
    obtain ⟨r, hr⟩ := exec_eq_finish hmerge hextract hsext s
    exact finish_frame (hr.symm.trans h)

/-- Settles O1: each clause is the assignment's line for one value. -/
theorem stepRunsTheSelectedOperation : Obligations.StepRunsTheSelectedOperation := by
  unfold Obligations.StepRunsTheSelectedOperation
  intro s
  and_intros <;> exact step_of_op

/-- Settles O16: a reserved evaluation is an error on every input. -/
theorem reservedOpsAreFaults : Obligations.ReservedOpsAreFaults := by
  unfold Obligations.ReservedOpsAreFaults
  intro s
  refine ⟨rfl, rfl, rfl, fun hop => ?_⟩
  rw [step_reserved (reservedOp_iff.mpr hop)]
  exact ⟨rfl, rfl⟩

end Sys2Proof.Machine

/-!
PROOFS. The operand family (spec/40_operand_domains.md): the ranges of the narrow-integer types, what rounding,
negation and conversion do within them, how their values are carried on a port, and the scan of a fence mask.
-/

namespace Sys2Proof.Machine

/-! ### The ranges of the types -/

namespace NarrowType

section
variable {t : NarrowType} {v : Int}

theorem accepts_iff : t.accepts v = true ↔ t.least ≤ v ∧ v ≤ t.greatest := by
  simp [accepts]

theorem legal_iff_of_even (h : t.even = true) : t.legal v = true ↔ t.accepts v = true ∧ v % 2 = 0 := by
  simp [legal, h]

theorem legal_iff_of_not_even (h : t.even = false) : t.legal v = true ↔ t.accepts v = true := by
  simp [legal, h]

/-- R102 to R104: the other types store all that they accept. -/
theorem legal_iff_bounds (h : t.even = false) : t.legal v = true ↔ t.least ≤ v ∧ v ≤ t.greatest :=
  (legal_iff_of_not_even h).trans accepts_iff

theorem accepts_of_legal (h : t.legal v = true) : t.accepts v = true :=
  (Bool.and_eq_true_iff.mp h).1

theorem width_pos (t : NarrowType) : 0 < t.width := by cases t <;> decide

theorem width_le (t : NarrowType) : t.width ≤ 32 := by cases t <;> decide

/-- R100: a signed type reaches one further down than up. -/
theorem greatest_of_signed (h : t.signed = true) : t.greatest = -t.least - 1 := by
  simp [greatest, least, h]

/-- R105, R107: the least value of an even type is one that it stores. -/
theorem least_even (h : t.even = true) : t.least % 2 = 0 := by
  cases t with
  | bImm | jImm => rfl
  | register | uimm5 | imm12 | csr | fenceMask => cases h

/-! ### Rounding and negation -/

theorem store_of_even (h : t.even = true) : t.store v = v - v % 2 := if_pos h

theorem store_of_not_even (h : t.even = false) : t.store v = v := if_neg (by simp [h])

/-- R106: rounding leads from the acceptance set into the stored set. -/
theorem legal_store (h : t.accepts v = true) : t.legal (t.store v) = true := by
  cases heven : t.even with
  | false => rwa [store_of_not_even heven, legal_iff_of_not_even heven]
  | true =>
    have hleast := least_even heven
    rw [accepts_iff] at h
    rw [store_of_even heven, legal_iff_of_even heven, accepts_iff]
    omega

theorem neg_min : t.neg t.min = t.min := if_pos rfl

theorem neg_of_ne_min (h : v ≠ t.min) : t.neg v = -v := if_neg h

/-- R109: above MIN the range is symmetric, so negation stays within it. -/
theorem accepts_neg_of_ne_min (hs : t.signed = true) (h : t.accepts v = true) (hne : v ≠ t.min) :
    t.accepts (-v) = true := by
  have hmin : v ≠ t.least := hne
  rw [accepts_iff, greatest_of_signed hs] at h ⊢
  omega

theorem legal_neg (hs : t.signed = true) (h : t.legal v = true) : t.legal (t.neg v) = true := by
  by_cases hmin : v = t.min
  · rwa [hmin, neg_min, ← hmin]
  have hneg := accepts_neg_of_ne_min hs (accepts_of_legal h) hmin
  rw [neg_of_ne_min hmin]
  cases heven : t.even with
  | false => exact (legal_iff_of_not_even heven).mpr hneg
  | true =>
    obtain ⟨-, hmod⟩ := (legal_iff_of_even heven).mp h
    exact (legal_iff_of_even heven).mpr ⟨hneg, by omega⟩

end

end NarrowType

/-- R106: clearing bit 0 of the two's-complement pattern takes the value down to the even one. -/
theorem ofInt_sub_emod_two (v : Int) : BitVec.ofInt 32 (v - v % 2) = BitVec.ofInt 32 v &&& ~~~1#32 := by
  have hnat : (BitVec.ofInt 32 (v - v % 2)).toNat = 2 * ((BitVec.ofInt 32 v).toNat / 2) := by
    rw [BitVec.toNat_ofInt, BitVec.toNat_ofInt]
    omega
  apply BitVec.eq_of_getLsbD_eq
  intro j hj
  rw [BitVec.getLsbD_and, BitVec.getLsbD_not, ← BitVec.testBit_toNat, ← BitVec.testBit_toNat, hnat]
  cases j with
  | zero => simp
  | succ j => simp [Nat.testBit_succ, hj]

/-! ### Conversions -/

namespace NativeType

/-- R111: the least value of a native type. -/
def least (n : NativeType) : Int := if n.signed then -(2 ^ (n.width - 1)) else 0

/-- R111: the greatest value of a native type. -/
def greatest (n : NativeType) : Int := if n.signed then 2 ^ (n.width - 1) - 1 else 2 ^ n.width - 1

theorem holds_iff {n : NativeType} {v : Int} : n.holds v = true ↔ n.least ≤ v ∧ v ≤ n.greatest := by
  unfold holds least greatest
  split <;> simp

theorem width_pos (n : NativeType) : 0 < n.width := by cases n <;> decide

theorem least_le_greatest (n : NativeType) : n.least ≤ n.greatest := by cases n <;> decide

end NativeType

theorem convert_of_accepts {t : NarrowType} {v : Int} (n : NativeType) (h : t.accepts v = true) :
    convert t n v = .ok (t.store v) := if_pos h

theorem convert_of_not_accepts {t : NarrowType} {v : Int} (n : NativeType) (h : t.accepts v = false) :
    convert t n v = .error ⟨v, n.width, hexOf n v⟩ := if_neg (by simp [h])

theorem convertOut_of_holds {n : NativeType} {v : Int} (h : n.holds v = true) :
    convertOut n v = some v := if_pos h

theorem convertOut_of_not_holds {n : NativeType} {v : Int} (h : n.holds v = false) :
    convertOut n v = none := if_neg (by simp [h])

theorem length_hexDigits (count n : Nat) : (hexDigits count n).length = count := by
  induction count generalizing n with
  | zero => rfl
  | succ count ih => rw [hexDigits, List.length_append, ih, List.length_singleton]

theorem length_hexOf (n : NativeType) (v : Int) : (hexOf n v).length = 2 + n.width / 4 := by
  rw [hexOf, List.length_cons, List.length_cons, length_hexDigits]
  omega

/-- R112: every native value is accepted exactly when the ends of the native range are. -/
theorem accepts_all_iff (t : NarrowType) (n : NativeType) :
    (∀ v, n.holds v = true → t.accepts v = true) ↔ t.least ≤ n.least ∧ n.greatest ≤ t.greatest := by
  simp only [NativeType.holds_iff, NarrowType.accepts_iff]
  exact Set.Icc_subset_Icc_iff n.least_le_greatest

/-- R112: judging by bit count is comparing the ends of the two ranges, for each choice of signs. -/
theorem infallible_iff (t : NarrowType) (n : NativeType) :
    infallible t n = true ↔ t.least ≤ n.least ∧ n.greatest ≤ t.greatest := by
  have ht := t.width_pos
  have hn := n.width_pos
  have hpow (a b : Nat) : (2 : Int) ^ a ≤ 2 ^ b ↔ a ≤ b := pow_le_pow_iff_right₀ one_lt_two
  unfold infallible NarrowType.least NarrowType.greatest NativeType.least NativeType.greatest
  cases n.signed <;> cases t.signed
  case false.false => simp [hpow]
  case false.true =>
    have hlow : -(2 : Int) ^ (t.width - 1) ≤ 0 := neg_nonpos.mpr (by positivity)
    simp only [Bool.false_eq_true, if_false, if_true, decide_eq_true_eq, hlow, true_and,
      sub_le_sub_iff_right, hpow]
    omega
  case true.false => simp
  case true.true =>
    simp only [if_true, Bool.true_and, decide_eq_true_eq, neg_le_neg_iff, sub_le_sub_iff_right,
      hpow, and_self]
    omega

/-! ### Carrying a value on a port -/

theorem setWidth_ofInt {m n : Nat} (h : m ≤ n) (v : Int) :
    (BitVec.ofInt n v).setWidth m = BitVec.ofInt m v := by
  have hdvd : ((2 ^ m : Nat) : Int) ∣ (2 ^ n : Nat) := Int.natCast_dvd_natCast.mpr (pow_dvd_pow 2 h)
  apply BitVec.eq_of_toInt_eq
  rw [BitVec.toInt_setWidth, BitVec.toNat_ofInt, BitVec.toInt_ofInt,
    Int.toNat_of_nonneg (Int.emod_nonneg _ (by positivity)), ← Int.emod_bmod,
    Int.emod_emod_of_dvd _ hdvd, Int.emod_bmod]

theorem extractLsb'_setWidth_self {w : Nat} (h : w ≤ 32) (x : BitVec w) :
    (x.setWidth 32).extractLsb' 0 w = x := by
  rw [BitVec.extractLsb'_setWidth_of_le (by omega), BitVec.extractLsb'_eq_self]

theorem extractLsb'_signExtend_self {w : Nat} (h : w ≤ 32) (x : BitVec w) :
    (x.signExtend 32).extractLsb' 0 w = x := by
  apply BitVec.eq_of_getLsbD_eq
  intro j hj
  have hj' : j < 32 := hj.trans_le h
  rw [BitVec.getLsbD_extractLsb', BitVec.getLsbD_signExtend, Nat.zero_add]
  simp only [hj, hj', decide_true, Bool.true_and, if_true]

namespace NarrowType

/-- R103 to R107: how the W bits of a value are widened to the port. -/
def extend (t : NarrowType) (x : BitVec t.width) : Word :=
  if t.signed then x.signExtend 32 else x.setWidth 32

section
variable {t : NarrowType}

/-- R113: the masked pattern is the value in W bits. -/
theorem pattern_eq (v : Int) : t.pattern v = (BitVec.ofInt t.width v).setWidth 32 := by
  rw [← setWidth_ofInt t.width_le]
  apply BitVec.eq_of_getLsbD_eq
  intro j hj
  simp only [pattern, BitVec.getLsbD_and, mask_getLsbD, BitVec.getLsbD_setWidth, hj, decide_true,
    Bool.true_and, Bool.and_comm]

theorem port_eq_extend (v : Int) : t.port v = t.extend (BitVec.ofInt t.width v) := by
  rw [port, extend, pattern_eq, extractLsb'_setWidth_self t.width_le]

theorem extractLsb'_extend (x : BitVec t.width) : (t.extend x).extractLsb' 0 t.width = x := by
  unfold extend
  split
  · exact extractLsb'_signExtend_self t.width_le x
  · exact extractLsb'_setWidth_self t.width_le x

/-- R100: every pattern of W bits is that of a value in the acceptance set. -/
theorem exists_accepts_ofInt (x : BitVec t.width) :
    ∃ v, t.accepts v = true ∧ BitVec.ofInt t.width v = x := by
  cases hs : t.signed with
  | true =>
    refine ⟨x.toInt, ?_, BitVec.ofInt_toInt⟩
    simpa [accepts_iff, least, greatest, hs] using ⟨x.le_toInt, x.toInt_lt⟩
  | false =>
    refine ⟨x.toNat, ?_, by simp⟩
    have hlt : (x.toNat : Int) < 2 ^ t.width := mod_cast x.isLt
    simp only [accepts_iff, least, greatest, hs, Bool.false_eq_true, if_false]
    omega

/-- R114: a word carries an accepted value exactly when it is its own low W bits widened. -/
theorem carried_iff (imm : Word) :
    (∃ v, t.accepts v = true ∧ imm = t.port v) ↔ imm = t.extend (imm.extractLsb' 0 t.width) := by
  simp only [port_eq_extend]
  constructor
  · rintro ⟨v, -, rfl⟩
    rw [extractLsb'_extend]
  · intro h
    obtain ⟨v, hv, hx⟩ := exists_accepts_ofInt (imm.extractLsb' 0 t.width)
    exact ⟨v, hv, by rwa [hx]⟩

theorem legal_carried_iff (h : t.even = false) (imm : Word) :
    (∃ v, t.legal v = true ∧ imm = t.port v) ↔ imm = t.extend (imm.extractLsb' 0 t.width) := by
  simp only [legal_iff_of_not_even h, carried_iff]

/-- R107: the word that carries an accepted value of a signed type denotes it. -/
theorem toInt_port {v : Int} (hs : t.signed = true) (h : t.accepts v = true) : (t.port v).toInt = v := by
  rw [accepts_iff, greatest_of_signed hs, least, if_pos hs] at h
  rw [port_eq_extend, extend, if_pos hs, BitVec.toInt_signExtend_of_le t.width_le]
  exact BitVec.toInt_ofInt_eq_self t.width_pos h.1 (by omega)

end

end NarrowType

/-- R114: the U contract, the low 12 bits of the immediate being 0, as a number. -/
theorem extractLsb'_zero_twelve_eq_zero_iff (imm : Word) :
    imm.extractLsb' 0 12 = 0#12 ↔ imm.toNat % 4096 = 0 := by
  rw [← BitVec.toNat_inj, BitVec.extractLsb'_toNat]
  rfl

/-! ### Fence masks -/

theorem fenceFlag_eq_some {c : Char} {b : BitVec 4} (h : fenceFlag c = some b) :
    (c = 'i' ∧ b = 0b1000#4) ∨ (c = 'o' ∧ b = 0b0100#4) ∨ (c = 'r' ∧ b = 0b0010#4)
      ∨ (c = 'w' ∧ b = 0b0001#4) := by
  unfold fenceFlag at h
  split at h <;> cases h <;> simp

theorem fenceFlag_eq_none {c : Char} (hi : c ≠ 'i') (ho : c ≠ 'o') (hr : c ≠ 'r') (hw : c ≠ 'w') :
    fenceFlag c = none := by
  cases h : fenceFlag c with
  | none => rfl
  | some b =>
    have hcases := fenceFlag_eq_some h
    simp [hi, ho, hr, hw] at hcases

/-- R110: different flags are different bits. -/
theorem getD_fenceFlag_and_eq_zero_iff {c d : Char} {b : BitVec 4} (hc : fenceFlag c = some b) :
    (fenceFlag d).getD 0#4 &&& b = 0#4 ↔ d ≠ c := by
  cases hd : fenceFlag d with
  | none =>
    have hne : d ≠ c := by
      rintro rfl
      cases hd.symm.trans hc
    simp [hne]
  | some b' =>
    obtain ⟨rfl, rfl⟩ | ⟨rfl, rfl⟩ | ⟨rfl, rfl⟩ | ⟨rfl, rfl⟩ := fenceFlag_eq_some hc <;>
      obtain ⟨rfl, rfl⟩ | ⟨rfl, rfl⟩ | ⟨rfl, rfl⟩ | ⟨rfl, rfl⟩ := fenceFlag_eq_some hd <;> decide

/-- R110: every character is a flag and none is given twice. -/
def FlagsOnce (flags : List Char) : Prop :=
  (∀ c ∈ flags, (fenceFlag c).isSome = true) ∧ flags.Nodup

/-- R110: the union of the flags in a list. -/
def flagUnion (flags : List Char) : BitVec 4 :=
  flags.foldr (fun c acc => (fenceFlag c).getD 0#4 ||| acc) 0#4

theorem flagsOnce_nil : FlagsOnce [] := by simp [FlagsOnce]

theorem flagsOnce_concat {flags : List Char} {c : Char} :
    FlagsOnce (flags ++ [c]) ↔ FlagsOnce flags ∧ (fenceFlag c).isSome = true ∧ c ∉ flags := by
  simp only [FlagsOnce, List.forall_mem_append, List.forall_mem_singleton, List.nodup_append',
    List.nodup_singleton, List.disjoint_singleton, true_and]
  tauto

theorem flagUnion_concat (flags : List Char) (c : Char) :
    flagUnion (flags ++ [c]) = flagUnion flags ||| (fenceFlag c).getD 0#4 := by
  induction flags with
  | nil => simp [flagUnion]
  | cons d rest ih =>
    simp only [flagUnion, List.cons_append, List.foldr_cons] at ih ⊢
    rw [ih, BitVec.or_assoc]

/-- R110: a flag's bit is in the union exactly when the flag is in the list. -/
theorem flagUnion_and_eq_zero_iff {c : Char} {b : BitVec 4} (hc : fenceFlag c = some b)
    (flags : List Char) : flagUnion flags &&& b = 0#4 ↔ c ∉ flags := by
  induction flags with
  | nil => simp [flagUnion]
  | cons d rest ih =>
    have hunion : flagUnion (d :: rest) = (fenceFlag d).getD 0#4 ||| flagUnion rest := rfl
    rw [hunion, BitVec.and_or_distrib_right, BitVec.or_eq_zero_iff, ih,
      getD_fenceFlag_and_eq_zero_iff hc, List.mem_cons, not_or, ne_comm]

section
variable {position : Nat} {seen : BitVec 4} {c : Char} {rest : List Char}

theorem parseFenceFrom_invalid (h : fenceFlag c = none) :
    parseFenceFrom position seen (c :: rest) = .error (.invalidFlag c position) := by
  rw [parseFenceFrom, h]

theorem parseFenceFrom_duplicate {b : BitVec 4} (h : fenceFlag c = some b) (hb : seen &&& b ≠ 0#4) :
    parseFenceFrom position seen (c :: rest) = .error (.duplicateFlag c position) := by
  simp only [parseFenceFrom, h, if_pos hb]

theorem parseFenceFrom_new {b : BitVec 4} (h : fenceFlag c = some b) (hb : seen &&& b = 0#4) :
    parseFenceFrom position seen (c :: rest) = parseFenceFrom (position + 1) (seen ||| b) rest := by
  simp only [parseFenceFrom, h, if_neg (not_not_intro hb)]

end

section
variable {flags : List Char}

/-- R110: the scan gets past distinct flags and has then seen their union. -/
theorem parseFence_append (h : FlagsOnce flags) (rest : List Char) :
    parseFence (flags ++ rest) = parseFenceFrom flags.length (flagUnion flags) rest := by
  induction flags using List.reverseRecOn generalizing rest with
  | nil => rfl
  | append_singleton flags c ih =>
    obtain ⟨hflags, hsome, hnew⟩ := flagsOnce_concat.mp h
    obtain ⟨b, hb⟩ := Option.isSome_iff_exists.mp hsome
    rw [List.append_assoc, List.singleton_append, ih hflags,
      parseFenceFrom_new hb ((flagUnion_and_eq_zero_iff hb flags).mpr hnew), flagUnion_concat, hb,
      List.length_append, List.length_singleton, Option.getD_some]

/-- What makes a string a fence mask. -/
theorem parseFence_ok (h : FlagsOnce flags) : parseFence flags = .ok (flagUnion flags) := by
  have hscan := parseFence_append h []
  rwa [List.append_nil] at hscan

section
variable {c : Char} {p : Nat} (hc : flags[p]? = some c) (h : FlagsOnce (flags.take p))
include hc h

/-- R110: the scan reaches a character that distinct flags precede. -/
theorem parseFence_reaches :
    parseFence flags = parseFenceFrom p (flagUnion (flags.take p)) (c :: flags.drop (p + 1)) := by
  obtain ⟨hp, hget⟩ := List.getElem?_eq_some_iff.mp hc
  have hlen : (flags.take p).length = p := List.length_take_of_le hp.le
  have hsplit : flags.take p ++ c :: flags.drop (p + 1) = flags := by
    rw [← hget, List.getElem_cons_drop, List.take_append_drop]
  have hscan := parseFence_append h (c :: flags.drop (p + 1))
  rwa [hlen, hsplit] at hscan

theorem parseFence_invalid (hnone : fenceFlag c = none) :
    parseFence flags = .error (.invalidFlag c p) := by
  rw [parseFence_reaches hc h, parseFenceFrom_invalid hnone]

theorem parseFence_duplicate (hmem : c ∈ flags.take p) :
    parseFence flags = .error (.duplicateFlag c p) := by
  obtain ⟨b, hb⟩ := Option.isSome_iff_exists.mp (h.1 c hmem)
  have hseen : flagUnion (flags.take p) &&& b ≠ 0#4 :=
    fun hzero => (flagUnion_and_eq_zero_iff hb _).mp hzero hmem
  rw [parseFence_reaches hc h, parseFenceFrom_duplicate hb hseen]

end

/-- R110: a string is distinct flags or has a first offending character. -/
theorem flagsOnce_or_offender (flags : List Char) :
    FlagsOnce flags ∨ ∃ c p, flags[p]? = some c ∧ FlagsOnce (flags.take p)
      ∧ (fenceFlag c = none ∨ c ∈ flags.take p) := by
  induction flags using List.reverseRecOn with
  | nil => exact .inl flagsOnce_nil
  | append_singleton flags d ih =>
    obtain h | ⟨c, p, hc, h, hbad⟩ := ih
    · by_cases hd : (fenceFlag d).isSome = true ∧ d ∉ flags
      · exact .inl (flagsOnce_concat.mpr ⟨h, hd⟩)
      · refine .inr ⟨d, flags.length, by simp, by simpa using h, ?_⟩
        rw [not_and_or, Option.not_isSome_iff_eq_none, not_not] at hd
        simpa using hd
    · obtain ⟨hp, -⟩ := List.getElem?_eq_some_iff.mp hc
      refine .inr ⟨c, p, ?_, ?_⟩
      · rwa [List.getElem?_append_left hp]
      · rw [List.take_append_of_le_length hp.le]
        exact ⟨h, hbad⟩

/-- R110: the three outcomes of a scan, each with what it says about the string. -/
theorem parseFence_cases (flags : List Char) :
    (FlagsOnce flags ∧ parseFence flags = .ok (flagUnion flags))
      ∨ ∃ c p, flags[p]? = some c ∧ FlagsOnce (flags.take p)
        ∧ ((fenceFlag c = none ∧ parseFence flags = .error (.invalidFlag c p))
          ∨ (c ∈ flags.take p ∧ parseFence flags = .error (.duplicateFlag c p))) := by
  obtain h | ⟨c, p, hc, h, hnone | hmem⟩ := flagsOnce_or_offender flags
  · exact .inl ⟨h, parseFence_ok h⟩
  · exact .inr ⟨c, p, hc, h, .inl ⟨hnone, parseFence_invalid hc h hnone⟩⟩
  · exact .inr ⟨c, p, hc, h, .inr ⟨hmem, parseFence_duplicate hc h hmem⟩⟩

theorem parseFence_eq_ok_iff {m : BitVec 4} :
    parseFence flags = .ok m ↔ FlagsOnce flags ∧ m = flagUnion flags := by
  constructor
  · intro hm
    obtain ⟨h, hok⟩ | ⟨c, p, -, -, ⟨-, herr⟩ | ⟨-, herr⟩⟩ := parseFence_cases flags
    · exact ⟨h, Except.ok.inj (hm.symm.trans hok)⟩
    · cases hm.symm.trans herr
    · cases hm.symm.trans herr
  · rintro ⟨h, rfl⟩
    exact parseFence_ok h

theorem parseFence_eq_invalid_iff {c : Char} {p : Nat} :
    parseFence flags = .error (.invalidFlag c p) ↔
      flags[p]? = some c ∧ fenceFlag c = none ∧ FlagsOnce (flags.take p) := by
  constructor
  · intro hinv
    obtain ⟨-, hok⟩ | ⟨d, q, hd, h, ⟨hnone, herr⟩ | ⟨-, herr⟩⟩ := parseFence_cases flags
    · cases hinv.symm.trans hok
    · cases hinv.symm.trans herr
      exact ⟨hd, hnone, h⟩
    · cases hinv.symm.trans herr
  · rintro ⟨hc, hnone, h⟩
    exact parseFence_invalid hc h hnone

theorem parseFence_eq_duplicate_iff {c : Char} {p : Nat} :
    parseFence flags = .error (.duplicateFlag c p) ↔
      flags[p]? = some c ∧ c ∈ flags.take p ∧ FlagsOnce (flags.take p) := by
  constructor
  · intro hdup
    obtain ⟨-, hok⟩ | ⟨d, q, hd, h, ⟨-, herr⟩ | ⟨hmem, herr⟩⟩ := parseFence_cases flags
    · cases hdup.symm.trans hok
    · cases hdup.symm.trans herr
    · cases hdup.symm.trans herr
      exact ⟨hd, hmem, h⟩
  · rintro ⟨hc, hmem, h⟩
    exact parseFence_duplicate hc h hmem

end

/-! ### The statements -/

/-- Settles O57: a scan gets past distinct flags, and a string is distinct flags or has a first offender. -/
theorem fenceMaskParsing : Obligations.FenceMaskParsing := by
  unfold Obligations.FenceMaskParsing
  refine ⟨rfl, rfl, rfl, rfl, fun _ => fenceFlag_eq_none, fun flags => ⟨fun m => ?_,
    fun _ _ => parseFence_eq_invalid_iff, fun _ _ => parseFence_eq_duplicate_iff⟩⟩
  rw [parseFence_eq_ok_iff, FlagsOnce, and_assoc, flagUnion]

/-- Settles O58: both sides of the infallibility clause compare the ends of the two ranges. -/
theorem conversionsFailExactlyOutsideTheDomain : Obligations.ConversionsFailExactlyOutsideTheDomain := by
  unfold Obligations.ConversionsFailExactlyOutsideTheDomain
  intro t n
  exact ⟨fun v => convert_of_accepts n, fun v h => ⟨convert_of_not_accepts n h, length_hexOf n v⟩,
    (infallible_iff t n).trans (accepts_all_iff t n).symm, fun v => convertOut_of_holds,
    fun v => convertOut_of_not_holds⟩

/-- Settles O59: each contract is that the immediate is its own low W bits, widened as its type is. -/
theorem portContractIsTheImmediateDomain : Obligations.PortContractIsTheImmediateDomain := by
  unfold Obligations.PortContractIsTheImmediateDomain
  intro imm
  refine ⟨rfl, ?_, ?_, ?_, ?_, ?_, fun v => NarrowType.toInt_port rfl⟩
  · rw [NarrowType.legal_carried_iff rfl, NarrowType.legal_carried_iff rfl, immOk, Bool.or_eq_true,
      beq_iff_eq, beq_iff_eq]
    rfl
  · rw [NarrowType.legal_carried_iff rfl]
    exact beq_iff_eq
  · rw [NarrowType.carried_iff]
    exact beq_iff_eq
  · rw [immOk, beq_iff_eq, extractLsb'_zero_twelve_eq_zero_iff]
  · rw [NarrowType.carried_iff]
    exact beq_iff_eq

/-- Settles O54: each clause puts the type's least and greatest value for the ends of its range. -/
theorem narrowTypeDomains : Obligations.NarrowTypeDomains := by
  unfold Obligations.NarrowTypeDomains
  intro v
  have hB : NarrowType.bImm.accepts v = true ↔ -4096 ≤ v ∧ v ≤ 4095 := NarrowType.accepts_iff
  have hJ : NarrowType.jImm.accepts v = true ↔ -1048576 ≤ v ∧ v ≤ 1048575 := NarrowType.accepts_iff
  refine ⟨NarrowType.legal_iff_bounds rfl, NarrowType.legal_iff_bounds rfl, NarrowType.legal_iff_bounds rfl,
    NarrowType.legal_iff_bounds rfl, NarrowType.legal_iff_bounds rfl, hB, ?_, hJ, ?_,
    rfl, rfl, rfl, rfl, rfl, rfl, rfl, rfl, rfl, rfl⟩
  · rw [NarrowType.legal_iff_of_even rfl, hB]
    omega
  · rw [NarrowType.legal_iff_of_even rfl, hJ]
    omega

/-- Settles O55: an even type subtracts the value's parity, which is bit 0 of its pattern. -/
theorem roundingClearsBitZero : Obligations.RoundingClearsBitZero := by
  unfold Obligations.RoundingClearsBitZero
  intro t v h
  refine ⟨NarrowType.legal_store h, fun heven => ?_, NarrowType.store_of_not_even⟩
  rw [NarrowType.store_of_even heven]
  exact ⟨ofInt_sub_emod_two v, by omega, by omega⟩

/-- Settles O56: above MIN a signed type's range is symmetric. -/
theorem negationStaysWithinTheType : Obligations.NegationStaysWithinTheType := by
  unfold Obligations.NegationStaysWithinTheType
  intro t v hs h
  refine ⟨NarrowType.legal_neg hs h, ?_, NarrowType.neg_of_ne_min⟩
  rintro rfl
  exact NarrowType.neg_min

end Sys2Proof.Machine

/-!
PROOFS. The bitfield family (spec/41_bitfield_engine.md): the bits a range covers, the field a word holds
there, which tables MERGE takes and what it makes of them, and EXTRACT as its inverse.
-/

namespace Sys2Proof

/-! ### Words with no bit in common -/

theorem and_eq_zero_iff {x y : Word} :
    x &&& y = 0#32 ↔ ∀ j, x.getLsbD j = true → y.getLsbD j = false := by
  constructor
  · intro h j hx
    have hj := congrArg (BitVec.getLsbD · j) h
    simpa [hx] using hj
  · intro h
    ext j hj
    simpa [← BitVec.getLsbD_eq_getElem] using h j

theorem or_and_eq_zero_iff {x y z : Word} :
    (x ||| y) &&& z = 0#32 ↔ x &&& z = 0#32 ∧ y &&& z = 0#32 := by
  rw [BitVec.and_comm, BitVec.and_or_distrib_left, BitVec.or_eq_zero_iff, BitVec.and_comm z x,
    BitVec.and_comm z y]

/-- The union over a list has a bit exactly when one of its words has it. -/
theorem getLsbD_foldr_or {α : Type} (f : α → Word) (l : List α) (j : Nat) :
    (l.foldr (fun a acc => f a ||| acc) 0#32).getLsbD j = true ↔ ∃ a ∈ l, (f a).getLsbD j = true := by
  induction l with
  | nil => simp
  | cons a l ih => simp [ih]

/-! ### The bits a range covers -/

/-- R120: `rmask` covers the bits from `start` up to `end`. -/
theorem BitRange.mask_getLsbD_iff {r : BitRange} (h : r.ok = true) (j : Nat) :
    r.mask.getLsbD j = true ↔ r.start ≤ j ∧ (j : Int) < r.stop := by
  rw [BitRange.ok_iff] at h
  simp only [BitRange.mask_getLsbD, Bool.and_eq_true, decide_eq_true_eq]
  unfold BitRange.len
  omega

/-- R125: one range ends before the other begins. -/
def BitRange.Apart (a b : BitRange) : Prop := a.stop ≤ b.start ∨ b.stop ≤ a.start

theorem BitRange.Apart.symm {a b : BitRange} (h : a.Apart b) : b.Apart a := Or.symm h

theorem BitRange.not_apart_self {r : BitRange} (h : r.ok = true) : ¬ r.Apart r := by
  rw [BitRange.ok_iff] at h
  unfold BitRange.Apart
  omega

/-- R125: the overlap check is about the ends of the ranges; two that meet share the later start. -/
theorem BitRange.mask_and_mask_eq_zero_iff {a b : BitRange} (ha : a.ok = true) (hb : b.ok = true) :
    a.mask &&& b.mask = 0#32 ↔ a.Apart b := by
  simp only [and_eq_zero_iff, ← Bool.not_eq_true, BitRange.mask_getLsbD_iff ha, BitRange.mask_getLsbD_iff hb]
  rw [BitRange.ok_iff] at ha hb
  unfold BitRange.Apart
  constructor
  · intro h
    have hstart := h (max a.start b.start).toNat
    omega
  · intro h j
    omega

/-! ### The field of a word -/

/-- R129: the field as a number: the bits below `start` divided off, those from `len` up taken away. -/
theorem fieldOf_eq_ofNat (w : Word) (r : BitRange) :
    fieldOf w r = BitVec.ofNat 32 (w.toNat / 2 ^ r.start.toNat % 2 ^ r.len.toNat) := by
  ext j hj
  rw [← BitVec.getLsbD_eq_getElem, ← BitVec.getLsbD_eq_getElem, fieldOf_getLsbD, BitVec.getLsbD_ofNat,
    Nat.testBit_mod_two_pow, Nat.testBit_div_two_pow, BitVec.testBit_toNat, Nat.add_comm j]
  simp [hj]

/-- R129: a field is made of the bits its range covers. -/
theorem fieldOf_and_mask {r : BitRange} (h : r.ok = true) (w : Word) :
    fieldOf (w &&& r.mask) r = fieldOf w r := by
  ext j hj
  simp only [← BitVec.getLsbD_eq_getElem, fieldOf_getLsbD, BitVec.getLsbD_and]
  by_cases hlen : j < r.len.toNat
  · have hmask : r.mask.getLsbD (r.start.toNat + j) = true := by
      rw [BitRange.mask_getLsbD_iff h]
      rw [BitRange.ok_iff] at h
      unfold BitRange.len at hlen
      omega
    rw [hmask, Bool.and_true]
  · simp [hlen]

/-- R123, R124: the checks on one spec alone. -/
def BitFieldSpec.Good (sp : BitFieldSpec) : Prop :=
  sp.dst.len = sp.src.len ∧ sp.dst.ok = true ∧ sp.src.ok = true

/-- R122: a spec places no bit outside its destination. -/
theorem BitFieldSpec.mask_of_placed {sp : BitFieldSpec} (h : sp.Good) {j : Nat}
    (hj : sp.placed.getLsbD j = true) : sp.dst.mask.getLsbD j = true := by
  obtain ⟨hlen, -⟩ := h
  rw [BitRange.mask_getLsbD, hlen]
  rw [BitFieldSpec.placed_getLsbD, Bool.and_eq_true] at hj
  exact hj.1

/-- R131: the destination of what a spec places holds the field of its source. -/
theorem BitFieldSpec.fieldOf_placed {sp : BitFieldSpec} (h : sp.Good) :
    fieldOf sp.placed sp.dst = fieldOf sp.value sp.src := by
  obtain ⟨hlen, hdst, -⟩ := h
  ext j hj
  simp only [← BitVec.getLsbD_eq_getElem, fieldOf_getLsbD, BitFieldSpec.placed_getLsbD, hlen,
    Nat.add_sub_cancel_left]
  by_cases hin : j < sp.src.len.toNat
  · have hword : sp.dst.start.toNat + j < 32 := by
      rw [BitRange.ok_iff] at hdst
      rw [← hlen, BitRange.len] at hin
      omega
    simp [hin, hword]
  · simp [hin]

end Sys2Proof

namespace Sys2Proof.Machine

/-! ### Which tables MERGE takes, and what it makes of them -/

/-- R128: the union of what the specs place. -/
def placedUnion (specs : List BitFieldSpec) : Word := specs.foldr (fun sp acc => sp.placed ||| acc) 0#32

section
variable {specs : List BitFieldSpec}

theorem GoodTable.good (h : GoodTable specs) {sp : BitFieldSpec} (hsp : sp ∈ specs) : sp.Good := h.1 sp hsp

theorem GoodTable.dst_ok (h : GoodTable specs) {sp : BitFieldSpec} (hsp : sp ∈ specs) : sp.dst.ok = true :=
  have ⟨_, hdst, _⟩ := h.good hsp
  hdst

theorem goodTable_cons {sp : BitFieldSpec} :
    GoodTable (sp :: specs) ↔ sp.Good ∧ (∀ b ∈ specs, sp.dst.Apart b.dst) ∧ GoodTable specs := by
  unfold GoodTable
  rw [List.forall_mem_cons, List.pairwise_cons]
  exact ⟨fun ⟨⟨hsp, hspecs⟩, hapart, hpairs⟩ => ⟨hsp, hapart, hspecs, hpairs⟩,
    fun ⟨hsp, hapart, hspecs, hpairs⟩ => ⟨⟨hsp, hspecs⟩, hapart, hpairs⟩⟩

/-- R122 to R126: from any accumulator and visited mask the loop gives a word exactly on a good table none
of whose destinations is visited, and that word adds the specs' union to the accumulator. -/
theorem mergeFrom_eq_ok_iff {acc visited w : Word} :
    mergeFrom acc visited specs = .ok w ↔
      GoodTable specs ∧ (∀ sp ∈ specs, visited &&& sp.dst.mask = 0#32) ∧ w = acc ||| placedUnion specs := by
  induction specs generalizing acc visited with
  | nil =>
    have hgood : GoodTable [] := ⟨fun _ h => absurd h List.not_mem_nil, List.Pairwise.nil⟩
    simp [mergeFrom, hgood, placedUnion, @eq_comm _ w]
  | cons sp rest ih =>
    have hunion : acc ||| placedUnion (sp :: rest) = acc ||| sp.placed ||| placedUnion rest :=
      (BitVec.or_assoc ..).symm
    rw [mergeFrom_cons_ok, ih, goodTable_cons, List.forall_mem_cons, hunion]
    simp only [or_and_eq_zero_iff]
    constructor
    · rintro ⟨hlen, hdst, hsrc, hvisited, hrest, hfree, rfl⟩
      refine ⟨⟨⟨hlen, hdst, hsrc⟩, fun b hb => ?_, hrest⟩, ⟨hvisited, fun b hb => (hfree b hb).1⟩, rfl⟩
      exact (BitRange.mask_and_mask_eq_zero_iff hdst (hrest.dst_ok hb)).mp (hfree b hb).2
    · rintro ⟨⟨⟨hlen, hdst, hsrc⟩, hapart, hrest⟩, ⟨hvisited, hfree⟩, rfl⟩
      refine ⟨hlen, hdst, hsrc, hvisited, hrest, fun b hb => ⟨hfree b hb, ?_⟩, rfl⟩
      exact (BitRange.mask_and_mask_eq_zero_iff hdst (hrest.dst_ok hb)).mpr (hapart b hb)

/-- R122 to R126: MERGE gives a word exactly on a good table, the union of what its specs place. -/
theorem merge_eq_ok_iff {w : Word} : merge specs = .ok w ↔ GoodTable specs ∧ w = placedUnion specs := by
  simp [merge, mergeFrom_eq_ok_iff]

/-- R126: whichever check of the loop fails, the table is wrong. -/
theorem faultOf_mergeFrom_error {acc visited : Word} {c : FaultCode}
    (h : mergeFrom acc visited specs = .error c) : faultOf c = .wrongTable := by
  induction specs generalizing acc visited with
  | nil => cases h
  | cons sp rest ih =>
    rw [mergeFrom] at h
    split_ifs at h
    · cases h; rfl
    · cases h; rfl
    · cases h; rfl
    · exact ih h

theorem exec_merge (s : State) : exec (.merge specs) s = finishSub s (merge specs) := rfl

theorem exec_merge_of_good (h : GoodTable specs) (s : State) :
    exec (.merge specs) s = .next (s.setSub (placedUnion specs)) := by
  rw [exec_merge, merge_eq_ok_iff.mpr ⟨h, rfl⟩, finishSub_ok]

theorem exec_merge_of_not_good (h : ¬ GoodTable specs) (s : State) :
    exec (.merge specs) s = .fault .wrongTable := by
  rw [exec_merge]
  cases hm : merge specs with
  | ok w => exact absurd (merge_eq_ok_iff.mp hm).1 h
  | error c => rw [finishSub_error, faultOf_mergeFrom_error hm]

/-! ### The order of the specs -/

/-- R128: no check on a table reads the order of its specs. -/
theorem GoodTable.perm {specs' : List BitFieldSpec} (h : GoodTable specs) (hperm : specs'.Perm specs) :
    GoodTable specs' :=
  ⟨fun _ hsp => h.good (hperm.mem_iff.mp hsp), (hperm.pairwise_iff BitRange.Apart.symm).mpr h.2⟩

theorem placedUnion_perm {specs' : List BitFieldSpec} (hperm : specs'.Perm specs) :
    placedUnion specs' = placedUnion specs :=
  hperm.foldr_eq' (fun a _ b _ acc => by rw [← BitVec.or_assoc, BitVec.or_comm b.placed, BitVec.or_assoc]) _

/-! ### Where the bits of the union come from -/

theorem placedUnion_getLsbD_iff {j : Nat} :
    (placedUnion specs).getLsbD j = true ↔ ∃ sp ∈ specs, sp.placed.getLsbD j = true :=
  getLsbD_foldr_or BitFieldSpec.placed specs j

/-- R125: two specs of a good table that cover one bit are the same spec. -/
theorem GoodTable.eq_of_mask (h : GoodTable specs) {a b : BitFieldSpec} (ha : a ∈ specs) (hb : b ∈ specs)
    {j : Nat} (hja : a.dst.mask.getLsbD j = true) (hjb : b.dst.mask.getLsbD j = true) : a = b := by
  by_contra hne
  have : Std.Symm fun a b : BitFieldSpec => a.dst.Apart b.dst := ⟨fun _ _ => BitRange.Apart.symm⟩
  have hpairs : specs.Pairwise fun a b => a.dst.Apart b.dst := h.2
  have hapart : a.dst.Apart b.dst := hpairs.forall ha hb hne
  have hclear := and_eq_zero_iff.mp
    ((BitRange.mask_and_mask_eq_zero_iff (h.dst_ok ha) (h.dst_ok hb)).mpr hapart) j hja
  rw [hjb] at hclear
  cases hclear

/-- R128: at a spec's destination the union holds what that spec places, and nothing of another. -/
theorem placedUnion_and_mask (h : GoodTable specs) {sp : BitFieldSpec} (hsp : sp ∈ specs) :
    placedUnion specs &&& sp.dst.mask = sp.placed := by
  ext j hj
  rw [← BitVec.getLsbD_eq_getElem, ← BitVec.getLsbD_eq_getElem, BitVec.getLsbD_and, Bool.eq_iff_iff,
    Bool.and_eq_true, placedUnion_getLsbD_iff]
  constructor
  · rintro ⟨⟨other, hother, hplaced⟩, hmask⟩
    rwa [← h.eq_of_mask hother hsp (BitFieldSpec.mask_of_placed (h.good hother) hplaced) hmask]
  · intro hplaced
    exact ⟨⟨sp, hsp, hplaced⟩, BitFieldSpec.mask_of_placed (h.good hsp) hplaced⟩

/-- R128: the union is 0 outside the destinations. -/
theorem placedUnion_and_not_masks (h : GoodTable specs) :
    placedUnion specs &&& ~~~(specs.foldr (fun sp acc => sp.dst.mask ||| acc) 0#32) = 0#32 := by
  rw [and_eq_zero_iff]
  intro j hj
  obtain ⟨sp, hsp, hplaced⟩ := placedUnion_getLsbD_iff.mp hj
  have hmask := (getLsbD_foldr_or (fun sp : BitFieldSpec => sp.dst.mask) specs j).mpr
    ⟨sp, hsp, BitFieldSpec.mask_of_placed (h.good hsp) hplaced⟩
  rw [BitVec.getLsbD_not, hmask, Bool.not_true, Bool.and_false]

end

/-! ### EXTRACT as an instruction -/

theorem exec_extract (w : Word) (r : BitRange) (s : State) :
    exec (.extract w r) s = finishSub s (extract w r) := rfl

/-! ### The block's own tables -/

theorem passes_of_exists_ok {r : Except FaultCode Word} (h : ∃ w, r = .ok w) : passes r = true := by
  obtain ⟨w, rfl⟩ := h
  rfl

theorem passes_encodeTable (f : Fmt) (i : Inputs) : passes (merge (encodeTable f i)) = true :=
  passes_of_exists_ok (merge_encodeTable f i)

/-! ### The statements -/

/-- Settles O8: a table's check reads its ranges alone, so it is computed on inputs 0 and on word 0. -/
theorem builtInstancesPass : Obligations.BuiltInstancesPass := by
  unfold Obligations.BuiltInstancesPass
  refine ⟨fun i => ⟨passes_encodeTable .R i, passes_encodeTable .I i, passes_encodeTable .S i,
    passes_encodeTable .B i, passes_encodeTable .U i, passes_encodeTable .J i⟩, fun w => ?_, by decide, by decide⟩
  exact ⟨passes_of_exists_ok (merge_ok_of_blank_eq (immTableS 0) rfl (by decide)),
    passes_of_exists_ok (merge_ok_of_blank_eq (immTableB 0) rfl (by decide)),
    passes_of_exists_ok (merge_ok_of_blank_eq (immTableU 0) rfl (by decide)),
    passes_of_exists_ok (merge_ok_of_blank_eq (immTableJ 0) rfl (by decide))⟩

/-- Settles O46: the loop's checks are those of a good table. -/
theorem mergeGivesAWordExactlyOnGoodTables : Obligations.MergeGivesAWordExactlyOnGoodTables := by
  unfold Obligations.MergeGivesAWordExactlyOnGoodTables
  exact fun _ s => ⟨fun h => exec_merge_of_good h s, fun h => exec_merge_of_not_good h s⟩

/-- Settles O47: the table is good and the word is its union, and neither reads the specs' order. -/
theorem mergeIsOrderFreeAndPlacesEachField : Obligations.MergeIsOrderFreeAndPlacesEachField := by
  unfold Obligations.MergeIsOrderFreeAndPlacesEachField
  intro specs w h
  obtain ⟨hgood, rfl⟩ := merge_eq_ok_iff.mp h
  refine ⟨fun specs' hperm => ?_, rfl, fun sp => placedUnion_and_mask hgood, placedUnion_and_not_masks hgood⟩
  exact merge_eq_ok_iff.mpr ⟨hgood.perm hperm, (placedUnion_perm hperm).symm⟩

/-- Settles O48: EXTRACT of the destination sees what the spec placed there and no other spec's bits. -/
theorem extractUndoesMerge : Obligations.ExtractUndoesMerge := by
  unfold Obligations.ExtractUndoesMerge
  intro specs w h sp hsp
  obtain ⟨hgood, rfl⟩ := merge_eq_ok_iff.mp h
  have hspec : sp.Good := hgood.good hsp
  have ⟨_, hdst, hsrc⟩ := hspec
  rw [extract_of_ok hdst, extract_of_ok hsrc]
  congr 1
  calc fieldOf (placedUnion specs) sp.dst
      = fieldOf (placedUnion specs &&& sp.dst.mask) sp.dst := (fieldOf_and_mask hdst _).symm
    _ = fieldOf sp.placed sp.dst := by rw [placedUnion_and_mask hgood hsp]
    _ = fieldOf sp.value sp.src := BitFieldSpec.fieldOf_placed hspec

/-- Settles O49: on a well-formed range the field is the quotient's remainder; no other range is read. -/
theorem extractReadsTheField : Obligations.ExtractReadsTheField := by
  unfold Obligations.ExtractReadsTheField
  intro w r s
  refine ⟨fun h => ?_, fun h => ?_⟩
  · rw [exec_extract, extract_of_ok (r.ok_iff.mpr h), finishSub_ok, fieldOf_eq_ofNat]
    rfl
  · have hbad : extract w r = .error .rangeBounds :=
      extract_of_not_ok (Bool.eq_false_iff.mpr (mt r.ok_iff.mp h)) w
    refine ⟨hbad, ?_⟩
    rw [exec_extract, hbad, finishSub_error, faultOf]

end Sys2Proof.Machine

/-!
PROOFS. The sign-extension family (spec/42_sign_extension.md): the shift pair is the sign extension of the low
K bits, and its integer value is theirs.
-/

namespace Sys2Proof.Machine

section
variable {k : Nat}

theorem exec_sext (v : Word) (s : State) : exec (.sext k v) s = finishSub s (sext k v) := rfl

/-- The sign bit of the low K bits is bit K-1. -/
theorem msb_extractLsb'_zero (hk : 1 ≤ k) (v : Word) : (v.extractLsb' 0 k).msb = v.getLsbD (k - 1) := by
  rw [BitVec.msb_eq_getLsbD_last, BitVec.getLsbD_extractLsb', Nat.zero_add, decide_eq_true (by omega),
    Bool.true_and]

/-- R142: the shift pair is the sign extension of the low K bits. -/
theorem sext_eq_signExtend (hk : 1 ≤ k ∧ k ≤ 31) (v : Word) :
    sext k v = .ok ((v.extractLsb' 0 k).signExtend 32) := by
  obtain ⟨w, hw, hbits⟩ := sext_getLsbD hk v
  rw [hw]
  congr 1
  apply BitVec.eq_of_getLsbD_eq
  intro j hj
  rw [hbits j hj, BitVec.getLsbD_signExtend, msb_extractLsb'_zero hk.1, BitVec.getLsbD_extractLsb', Nat.zero_add]
  by_cases hlow : j < k
  · simp only [hj, hlow, decide_true, Bool.true_and, if_true]
  · simp only [hj, hlow, decide_true, Bool.true_and, if_false]

/-- R142: the low K bits as a signed integer, their sign bit K-1 counting for `-2^K` beside its own place. -/
theorem toInt_extractLsb'_zero (hk : 1 ≤ k) (v : Word) :
    (v.extractLsb' 0 k).toInt = (v.toNat % 2 ^ k : Nat) - 2 ^ k * (v.getLsbD (k - 1)).toNat := by
  rw [BitVec.toInt_eq_msb_cond, msb_extractLsb'_zero hk, BitVec.extractLsb'_toNat, Nat.shiftRight_zero]
  cases v.getLsbD (k - 1) with
  | true => simp
  | false => simp

end

/-! ### The statement -/

/-- Settles O50: widening the low K bits keeps their integer value, whose bounds are those of K bits. -/
theorem sextExtendsTheLowBits : Obligations.SextExtendsTheLowBits := by
  unfold Obligations.SextExtendsTheLowBits
  intro k v s
  refine ⟨fun hk => ?_, fun hk => ?_⟩
  · have hvalue : ((v.extractLsb' 0 k).signExtend 32).toInt = (v.extractLsb' 0 k).toInt :=
      BitVec.toInt_signExtend_of_le (by omega)
    refine ⟨(v.extractLsb' 0 k).signExtend 32, ?_, rfl, ?_, ?_, ?_⟩
    · rw [exec_sext, sext_eq_signExtend hk, finishSub_ok, State.setSub]
    · rw [hvalue, toInt_extractLsb'_zero hk.1]
    · rw [hvalue]
      exact BitVec.le_toInt _
    · rw [hvalue]
      exact Int.le_sub_one_of_lt BitVec.toInt_lt
  · rw [exec_sext, sext_of_bad hk, finishSub_error, faultOf]

end Sys2Proof.Machine

/-!
PROOFS. The format encoder family (spec/43_format_encoders.md): a range table whose destinations follow each
other up the word is a concatenation, each of the six tables is one, and an encoder answers its word.
-/

namespace Sys2Proof.Machine

/-! ### Tables that are concatenations -/

/-- R129: the field of a range is the slice that the range names. -/
theorem fieldOf_rng (v : Word) (a k : Nat) :
    fieldOf v (rng a (a + k : Nat)) = (v.extractLsb' a k).setWidth 32 := by
  ext j hj
  simp only [← BitVec.getLsbD_eq_getElem, fieldOf_getLsbD, BitVec.getLsbD_setWidth, BitVec.getLsbD_extractLsb', hj]
  simp [rng, BitRange.len]

/-- R122: a spec places the slice of its source range at the start of its destination. -/
theorem placed_rng (v : Word) (n a k : Nat) :
    BitFieldSpec.placed ⟨rng n (n + k : Nat), v, rng a (a + k : Nat)⟩
      = (v.extractLsb' a k).setWidth 32 <<< n := by
  rw [BitFieldSpec.placed, fieldOf_rng]
  rfl

/-- The low part of a concatenation starts where the whole does, its high part where the low one ends. -/
theorem append_setWidth_shiftLeft {m k : Nat} (x : BitVec m) (y : BitVec k) (n : Nat) :
    (x ++ y).setWidth 32 <<< n = (y.setWidth 32 <<< n ||| x.setWidth 32 <<< (n + k) : Word) := by
  ext j hj
  simp only [← BitVec.getLsbD_eq_getElem, BitVec.getLsbD_or, BitVec.getLsbD_shiftLeft, BitVec.getLsbD_setWidth,
    BitVec.getLsbD_append, hj]
  by_cases hbelow : j < n
  · simp [hbelow, Nat.lt_add_right k hbelow]
  by_cases hlow : j - n < k
  · simp [hbelow, hlow, show j < n + k by omega]
  · have hhigh : ¬ j < n + k := by omega
    have hy : y.getLsbD (j - n) = false := BitVec.getLsbD_of_ge _ _ (by omega)
    simp [hbelow, hlow, hhigh, hy, Nat.sub_sub, show j - n < 32 by omega, show j - (n + k) < 32 by omega]

/-- A signal of `k` bits is the low slice of its zero extension. -/
theorem extractLsb'_zero_setWidth {k : Nat} (hk : k ≤ 32) (y : BitVec k) :
    (y.setWidth 32).extractLsb' 0 k = y := by
  rw [BitVec.extractLsb'_setWidth_of_le (by omega), BitVec.extractLsb'_eq_self]

/-- R128: the table's union is `x` with its bit 0 at bit `n`. -/
def PacksFrom (n : Nat) {m : Nat} (x : BitVec m) (specs : List BitFieldSpec) : Prop :=
  placedUnion specs = x.setWidth 32 <<< n

namespace PacksFrom

variable {m n k : Nat} {x : BitVec m} {specs : List BitFieldSpec}

theorem slice (v : Word) (a k : Nat) :
    PacksFrom n (v.extractLsb' a k) [⟨rng n (n + k : Nat), v, rng a (a + k : Nat)⟩] := by
  rw [PacksFrom, placedUnion, List.foldr_cons, List.foldr_nil, placed_rng, BitVec.or_zero]

/-- A slice placed right below what the other specs place is appended to it. -/
theorem appendSlice (v : Word) (a k : Nat) (h : PacksFrom (n + k) x specs) :
    PacksFrom n (x ++ v.extractLsb' a k) (⟨rng n (n + k : Nat), v, rng a (a + k : Nat)⟩ :: specs) := by
  rw [PacksFrom, append_setWidth_shiftLeft, ← h, ← placed_rng]
  rfl

/-- R151: a signal that is zero-extended to 32 bits is placed whole. -/
theorem field (y : BitVec k) (hk : k ≤ 32 := by decide) :
    PacksFrom n y [⟨rng n (n + k : Nat), y.setWidth 32, rng 0 k⟩] := by
  have hslice := slice (n := n) (y.setWidth 32) 0 k
  rwa [extractLsb'_zero_setWidth hk, Nat.zero_add] at hslice

/-- R151: such a signal is appended as a slice is. -/
theorem appendField (y : BitVec k) (h : PacksFrom (n + k) x specs) (hk : k ≤ 32 := by decide) :
    PacksFrom n (x ++ y) (⟨rng n (n + k : Nat), y.setWidth 32, rng 0 k⟩ :: specs) := by
  have hslice := appendSlice (y.setWidth 32) 0 k h
  rwa [extractLsb'_zero_setWidth hk, Nat.zero_add] at hslice

/-- R122: an encoder's table that packs a whole word from bit 0 merges to that word. -/
theorem merge_encodeTable {f : Fmt} {i : Inputs} {w : Word} (h : PacksFrom 0 w (encodeTable f i)) :
    merge (encodeTable f i) = .ok w := by
  obtain ⟨u, hu⟩ := Machine.merge_encodeTable f i
  have hunion : u = w := by
    rw [(merge_eq_ok_iff.mp hu).2, h, BitVec.shiftLeft_zero, BitVec.setWidth_eq]
  rw [hu, hunion]

end PacksFrom

/-! ### The six tables, from the opcode up -/

section
variable (i : Inputs)

theorem packsFrom_tableR :
    PacksFrom 0 (i.funct7 ++ i.rs2 ++ i.rs1 ++ i.funct3 ++ i.rd ++ i.opcode) (tableR i) :=
  .appendField i.opcode <| .appendField i.rd <| .appendField i.funct3 <| .appendField i.rs1 <|
    .appendField i.rs2 <| .field i.funct7

theorem packsFrom_tableI :
    PacksFrom 0 (i.imm.extractLsb' 0 12 ++ i.rs1 ++ i.funct3 ++ i.rd ++ i.opcode) (tableI i) :=
  .appendField i.opcode <| .appendField i.rd <| .appendField i.funct3 <| .appendField i.rs1 <|
    .slice i.imm 0 12

theorem packsFrom_tableS :
    PacksFrom 0
      (i.imm.extractLsb' 5 7 ++ i.rs2 ++ i.rs1 ++ i.funct3 ++ i.imm.extractLsb' 0 5 ++ i.opcode) (tableS i) :=
  .appendField i.opcode <| .appendSlice i.imm 0 5 <| .appendField i.funct3 <| .appendField i.rs1 <|
    .appendField i.rs2 <| .slice i.imm 5 7

theorem packsFrom_tableB :
    PacksFrom 0
      (i.imm.extractLsb' 12 1 ++ i.imm.extractLsb' 5 6 ++ i.rs2 ++ i.rs1 ++ i.funct3
        ++ i.imm.extractLsb' 1 4 ++ i.imm.extractLsb' 11 1 ++ i.opcode) (tableB i) :=
  .appendField i.opcode <| .appendSlice i.imm 11 1 <| .appendSlice i.imm 1 4 <| .appendField i.funct3 <|
    .appendField i.rs1 <| .appendField i.rs2 <| .appendSlice i.imm 5 6 <| .slice i.imm 12 1

theorem packsFrom_tableU :
    PacksFrom 0 (i.imm.extractLsb' 12 20 ++ i.rd ++ i.opcode) (tableU i) :=
  .appendField i.opcode <| .appendField i.rd <| .slice i.imm 12 20

theorem packsFrom_tableJ :
    PacksFrom 0
      (i.imm.extractLsb' 20 1 ++ i.imm.extractLsb' 1 10 ++ i.imm.extractLsb' 11 1
        ++ i.imm.extractLsb' 12 8 ++ i.rd ++ i.opcode) (tableJ i) :=
  .appendField i.opcode <| .appendField i.rd <| .appendSlice i.imm 12 8 <| .appendSlice i.imm 11 1 <|
    .appendSlice i.imm 1 10 <| .slice i.imm 20 1

end

/-! ### What an encoder answers -/

/-- R150: run by itself or selected by `op`, an encoder drives the word that its table packs. -/
theorem encoder_next {f : Fmt} {s : State} {w : Word} (h : PacksFrom 0 w (encodeTable f s.inp)) :
    exec (decodeOp (encodeSelect f)) s = .next { s with out := encodedWord w }
    ∧ (s.inp.op = encodeSelect f → step s = .next { s with out := encodedWord w }) := by
  have hexec : exec (decodeOp (encodeSelect f)) s = finish s (encodeOutputs (encodeTable f s.inp)) := by
    cases f <;> rfl
  have hnext : exec (decodeOp (encodeSelect f)) s = .next { s with out := encodedWord w } := by
    rw [hexec, encodeOutputs_of_merge h.merge_encodeTable, finish_ok]
    rfl
  exact ⟨hnext, fun hop => (step_of_op hop).trans hnext⟩

/-! ### The statements -/

/-- Settles O17: `T_R` packs every field whole. -/
theorem encodeRPacksItsFields : Obligations.EncodeRPacksItsFields := by
  unfold Obligations.EncodeRPacksItsFields
  exact fun s => encoder_next (f := .R) (packsFrom_tableR s.inp)

/-- Settles O18: `T_I` packs the low 12 bits of the immediate. -/
theorem encodeIPacksItsFields : Obligations.EncodeIPacksItsFields := by
  unfold Obligations.EncodeIPacksItsFields
  exact fun s => encoder_next (f := .I) (packsFrom_tableI s.inp)

/-- Settles O19: `T_S` packs the immediate in two slices. -/
theorem encodeSPacksItsFields : Obligations.EncodeSPacksItsFields := by
  unfold Obligations.EncodeSPacksItsFields
  exact fun s => encoder_next (f := .S) (packsFrom_tableS s.inp)

/-- Settles O20: `T_B` packs the immediate in four slices, its bit 11 lowest. -/
theorem encodeBPacksItsFields : Obligations.EncodeBPacksItsFields := by
  unfold Obligations.EncodeBPacksItsFields
  exact fun s => encoder_next (f := .B) (packsFrom_tableB s.inp)

/-- Settles O21: `T_U` packs the immediate in place. -/
theorem encodeUPacksItsFields : Obligations.EncodeUPacksItsFields := by
  unfold Obligations.EncodeUPacksItsFields
  exact fun s => encoder_next (f := .U) (packsFrom_tableU s.inp)

/-- Settles O22: `T_J` packs the immediate in four slices, its bits 19 to 12 lowest. -/
theorem encodeJPacksItsFields : Obligations.EncodeJPacksItsFields := by
  unfold Obligations.EncodeJPacksItsFields
  exact fun s => encoder_next (f := .J) (packsFrom_tableJ s.inp)

end Sys2Proof.Machine

/-!
PROOFS. The format decoder family (spec/44_format_decoders.md): EXTRACT and the immediate tables as slices of the
word, what a decoder answers, and decoders and encoders as inverses.
-/

namespace Sys2Proof.Machine

/-! ### EXTRACT and MERGE as slices of the word -/

/-- R129: EXTRACT of a field's range gives the slice that the range names, zero-extended. -/
theorem extract_slice (w : Word) (a k : Nat) (h : (rng a (a + k : Nat)).ok = true) :
    extract w (rng a (a + k : Nat)) = .ok ((w.extractLsb' a k).setWidth 32) := by
  rw [extract_of_ok h, fieldOf_rng]

section
variable (w : Word)

@[simp] theorem extract_opcode : extract w (rng 0 7) = .ok ((wordOpcode w).setWidth 32) :=
  extract_slice w 0 7 rfl
@[simp] theorem extract_rd : extract w (rng 7 12) = .ok ((wordRd w).setWidth 32) :=
  extract_slice w 7 5 rfl
@[simp] theorem extract_funct3 : extract w (rng 12 15) = .ok ((wordFunct3 w).setWidth 32) :=
  extract_slice w 12 3 rfl
@[simp] theorem extract_rs1 : extract w (rng 15 20) = .ok ((wordRs1 w).setWidth 32) :=
  extract_slice w 15 5 rfl
@[simp] theorem extract_rs2 : extract w (rng 20 25) = .ok ((wordRs2 w).setWidth 32) :=
  extract_slice w 20 5 rfl
@[simp] theorem extract_funct7 : extract w (rng 25 32) = .ok ((wordFunct7 w).setWidth 32) :=
  extract_slice w 25 7 rfl
@[simp] theorem extract_immI : extract w (rng 20 32) = .ok ((wordImmI w).setWidth 32) :=
  extract_slice w 20 12 rfl

end

namespace PacksFrom

variable {m n : Nat} {x : BitVec m} {specs : List BitFieldSpec}

/-- R128: the bits below the lowest destination are 0. -/
theorem appendZeros (h : PacksFrom n x specs) : PacksFrom 0 (x ++ 0#n) specs := by
  rw [PacksFrom, append_setWidth_shiftLeft, Nat.zero_add, ← h, BitVec.setWidth_zero, BitVec.zero_shiftLeft,
    BitVec.zero_or]

/-- R122, R241: a table with the ranges of one that passes merges to what it packs. -/
theorem merge_eq (h : PacksFrom 0 x specs) (specs' : List BitFieldSpec)
    (hblank : specs.map BitFieldSpec.blank = specs'.map BitFieldSpec.blank)
    (hpass : passes (merge specs') = true) : merge specs = .ok (x.setWidth 32) := by
  obtain ⟨u, hu⟩ := merge_ok_of_blank_eq specs' hblank hpass
  rw [hu, (merge_eq_ok_iff.mp hu).2, h, BitVec.shiftLeft_zero]

end PacksFrom

section
variable (w : Word)

theorem packsFrom_immTableS : PacksFrom 0 (wordImmS w) (immTableS w) :=
  .appendSlice w 7 5 <| .slice w 25 7

theorem packsFrom_immTableB : PacksFrom 0 (wordImmB w) (immTableB w) :=
  .appendZeros <| .appendSlice w 8 4 <| .appendSlice w 25 6 <| .appendSlice w 7 1 <| .slice w 31 1

theorem packsFrom_immTableU : PacksFrom 0 (wordImmU w) (immTableU w) :=
  .appendZeros <| .slice w 12 20

theorem packsFrom_immTableJ : PacksFrom 0 (wordImmJ w) (immTableJ w) :=
  .appendZeros <| .appendSlice w 21 10 <| .appendSlice w 20 1 <| .appendSlice w 12 8 <| .slice w 31 1

@[simp] theorem merge_immTableS : merge (immTableS w) = .ok ((wordImmS w).setWidth 32) :=
  (packsFrom_immTableS w).merge_eq (immTableS 0) rfl (by decide)

@[simp] theorem merge_immTableB : merge (immTableB w) = .ok ((wordImmB w).setWidth 32) :=
  (packsFrom_immTableB w).merge_eq (immTableB 0) rfl (by decide)

@[simp] theorem merge_immTableU : merge (immTableU w) = .ok (wordImmU w) :=
  (packsFrom_immTableU w).merge_eq (immTableU 0) rfl (by decide)

@[simp] theorem merge_immTableJ : merge (immTableJ w) = .ok ((wordImmJ w).setWidth 32) :=
  (packsFrom_immTableJ w).merge_eq (immTableJ 0) rfl (by decide)

end

/-- R142, R143: SEXT of an immediate of `k` bits on the 32-bit bus is its sign extension. -/
theorem sext_setWidth {k : Nat} (hk : 1 ≤ k ∧ k ≤ 31) (x : BitVec k) :
    sext k (x.setWidth 32) = .ok (x.signExtend 32) := by
  rw [sext_eq_signExtend hk, extractLsb'_zero_setWidth (by omega)]

/-! ### What a decoder answers -/

/-- R170: the fields of a word in a format, every output that the format does not define 0. -/
def decodedFields (f : Fmt) (w : Word) : Outputs :=
  match f with
  | .R => fieldsR 0 (wordOpcode w) (wordRd w) (wordFunct3 w) (wordRs1 w) (wordRs2 w) (wordFunct7 w)
  | .I => fieldsI 0 (wordOpcode w) (wordRd w) (wordFunct3 w) (wordRs1 w) ((wordImmI w).signExtend 32)
  | .S => fieldsS 0 (wordOpcode w) (wordFunct3 w) (wordRs1 w) (wordRs2 w) ((wordImmS w).signExtend 32)
  | .B => fieldsB 0 (wordOpcode w) (wordFunct3 w) (wordRs1 w) (wordRs2 w) ((wordImmB w).signExtend 32)
  | .U => fieldsU 0 (wordOpcode w) (wordRd w) (wordImmU w)
  | .J => fieldsJ 0 (wordOpcode w) (wordRd w) ((wordImmJ w).signExtend 32)

@[simp] theorem storeOutputs_eq (f : Fmt) (w imm : Word) :
    storeOutputs f w imm = .ok { Outputs.zero with
      opcode := wordOpcode w, funct3 := wordFunct3 w, rs1 := wordRs1 w, rs2 := wordRs2 w, imm := imm
      fmt := f.code } := by
  simp [storeOutputs, bind, Except.bind]

@[simp] theorem upperOutputs_eq (f : Fmt) (w imm : Word) :
    upperOutputs f w imm = .ok { Outputs.zero with
      opcode := wordOpcode w, rd := wordRd w, imm := imm, fmt := f.code } := by
  simp [upperOutputs, bind, Except.bind]

@[simp] theorem Outputs.zero_mnem : Outputs.zero.mnem = 0 := rfl

/-- R170 to R177: every word decodes in every format, to the format's fields of the word. -/
theorem decFields_eq (f : Fmt) (w : Word) : decFields f w = .ok (decodedFields f w) := by
  cases f with
  | R => simp [decFields, decFieldsR, decodedFields, fieldsR, Fmt.code, bind, Except.bind]
  | I => simp [decFields, decFieldsI, sext_setWidth, decodedFields, fieldsI, Fmt.code, bind, Except.bind]
  | S => simp [decFields, decFieldsS, sext_setWidth, decodedFields, fieldsS, Fmt.code, bind, Except.bind]
  | B => simp [decFields, decFieldsB, sext_setWidth, decodedFields, fieldsB, Fmt.code, bind, Except.bind]
  | U => simp [decFields, decFieldsU, decodedFields, fieldsU, Fmt.code, bind, Except.bind]
  | J => simp [decFields, decFieldsJ, sext_setWidth, decodedFields, fieldsJ, Fmt.code, bind, Except.bind]

/-- R170: a step that selects a decoder drives the fields of the word read. -/
theorem step_decoder {f : Fmt} {s : State} (hop : s.inp.op = decodeSelect f) :
    step s = .next (s.drive (decodedFields f s.inp.selected)) := by
  rw [step_eq_finish_evaluation, evaluation_decodeFormat hop, decFields_eq, finish_ok]

/-- R170: run by itself or selected by `op`, a decoder drives the fields of the word read. -/
theorem decoder_next (f : Fmt) (s : State) :
    exec (decodeOp (decodeSelect f)) s = .next { s with out := decodedFields f s.inp.selected }
    ∧ (s.inp.op = decodeSelect f → step s = .next { s with out := decodedFields f s.inp.selected }) := by
  refine ⟨?_, step_decoder⟩
  have hexec : exec (decodeOp (decodeSelect f)) s = finish s (decFields f s.inp.selected) := by
    cases f <;> rfl
  rw [hexec, decFields_eq, finish_ok]
  rfl

/-! ### What an encoder answers, as a packed word -/

/-- R150: the word that an encoder packs: every field whole, and of the immediate the bits that the format
holds. -/
def packedWord (f : Fmt) (i : Inputs) : Word :=
  match f with
  | .R => packR i.opcode i.funct3 i.funct7 i.rd i.rs1 i.rs2
  | .I => packI i.opcode i.funct3 i.rd i.rs1 (i.imm.extractLsb' 0 12)
  | .S => packS i.opcode i.funct3 i.rs1 i.rs2 (i.imm.extractLsb' 0 12)
  | .B => packB i.opcode i.funct3 i.rs1 i.rs2 (i.imm.extractLsb' 0 13)
  | .U => packU i.opcode i.rd i.imm
  | .J => packJ i.opcode i.rd (i.imm.extractLsb' 0 21)

/-- A slice of the low bits that the format holds is the immediate's own slice. -/
theorem packsFrom_encodeTable (f : Fmt) (i : Inputs) : PacksFrom 0 (packedWord f i) (encodeTable f i) := by
  cases f with
  | R => exact packsFrom_tableR i
  | I => exact packsFrom_tableI i
  | S => simpa [packedWord, packS, encodeTable, BitVec.extractLsb'_extractLsb'_of_le] using packsFrom_tableS i
  | B => simpa [packedWord, packB, encodeTable, BitVec.extractLsb'_extractLsb'_of_le] using packsFrom_tableB i
  | U => exact packsFrom_tableU i
  | J => simpa [packedWord, packJ, encodeTable, BitVec.extractLsb'_extractLsb'_of_le] using packsFrom_tableJ i

/-- R150: a step that selects an encoder drives the word that it packs. -/
theorem step_encoder {f : Fmt} {s : State} (hop : s.inp.op = encodeSelect f) :
    step s = .next (s.drive (wordOutputs (packedWord f s.inp))) :=
  (encoder_next (packsFrom_encodeTable f s.inp)).2 hop

/-! ### Packing the fields of a word

A slice of a concatenation is a slice of its low or of its high part, and neighbouring slices of a word
make one slice. The widths of a concatenation are sums, which simp's index does not match with the literal widths
of a word's fields, hence `-index`. -/

section
variable (w : Word)

theorem packR_fields :
    packR (wordOpcode w) (wordFunct3 w) (wordFunct7 w) (wordRd w) (wordRs1 w) (wordRs2 w) = w := by
  unfold packR wordOpcode wordFunct3 wordFunct7 wordRd wordRs1 wordRs2
  simp -index (disch := decide) only [BitVec.extractLsb'_append_extractLsb'_eq_extractLsb',
    BitVec.extractLsb'_eq_self]

theorem packI_fields : packI (wordOpcode w) (wordFunct3 w) (wordRd w) (wordRs1 w) (wordImmI w) = w := by
  unfold packI wordOpcode wordFunct3 wordRd wordRs1 wordImmI
  simp -index (disch := decide) only [BitVec.extractLsb'_append_extractLsb'_eq_extractLsb',
    BitVec.extractLsb'_eq_self]

theorem packS_fields : packS (wordOpcode w) (wordFunct3 w) (wordRs1 w) (wordRs2 w) (wordImmS w) = w := by
  unfold packS wordOpcode wordFunct3 wordRs1 wordRs2 wordImmS
  simp -index (disch := decide) only [BitVec.extractLsb'_append_eq_of_le,
    BitVec.extractLsb'_append_eq_of_add_le, BitVec.extractLsb'_append_extractLsb'_eq_extractLsb',
    BitVec.extractLsb'_eq_self]

theorem packB_fields : packB (wordOpcode w) (wordFunct3 w) (wordRs1 w) (wordRs2 w) (wordImmB w) = w := by
  unfold packB wordOpcode wordFunct3 wordRs1 wordRs2 wordImmB
  simp -index (disch := decide) only [BitVec.extractLsb'_append_eq_of_le,
    BitVec.extractLsb'_append_eq_of_add_le, BitVec.extractLsb'_append_extractLsb'_eq_extractLsb',
    BitVec.extractLsb'_eq_self]

theorem packU_fields : packU (wordOpcode w) (wordRd w) (wordImmU w) = w := by
  unfold packU wordOpcode wordRd wordImmU
  simp -index (disch := decide) only [BitVec.extractLsb'_append_eq_of_le,
    BitVec.extractLsb'_append_extractLsb'_eq_extractLsb', BitVec.extractLsb'_eq_self]

theorem packJ_fields : packJ (wordOpcode w) (wordRd w) (wordImmJ w) = w := by
  unfold packJ wordOpcode wordRd wordImmJ
  simp -index (disch := decide) only [BitVec.extractLsb'_append_eq_of_le,
    BitVec.extractLsb'_append_eq_of_add_le, BitVec.extractLsb'_append_extractLsb'_eq_extractLsb',
    BitVec.extractLsb'_eq_self]

end

/-- R178 (a): an encoder packs the fields that the decoder of its format read. -/
theorem packedWord_feedBack (f : Fmt) (w : Word) : packedWord f (feedBack f (decodedFields f w)) = w := by
  cases f with
  | R => exact packR_fields w
  | I => simp [packedWord, feedBack, decodedFields, fieldsI, extractLsb'_signExtend_self, packI_fields]
  | S => simp [packedWord, feedBack, decodedFields, fieldsS, extractLsb'_signExtend_self, packS_fields]
  | B => simp [packedWord, feedBack, decodedFields, fieldsB, extractLsb'_signExtend_self, packB_fields]
  | U => exact packU_fields w
  | J => simp [packedWord, feedBack, decodedFields, fieldsJ, extractLsb'_signExtend_self, packJ_fields]

/-! ### The fields of a packed word -/

section
variable (opcode : BitVec 7) (funct3 : BitVec 3) (rd rs1 rs2 : Reg)

theorem decodedFields_packR (funct7 : BitVec 7) :
    decodedFields .R (packR opcode funct3 funct7 rd rs1 rs2) = fieldsR 0 opcode rd funct3 rs1 rs2 funct7 := by
  unfold decodedFields packR wordOpcode wordRd wordFunct3 wordRs1 wordRs2 wordFunct7
  simp -index (disch := decide) only [BitVec.extractLsb'_append_eq_of_le,
    BitVec.extractLsb'_append_eq_of_add_le, BitVec.extractLsb'_eq_self]

theorem decodedFields_packI (imm : BitVec 12) :
    decodedFields .I (packI opcode funct3 rd rs1 imm) = fieldsI 0 opcode rd funct3 rs1 (imm.signExtend 32) := by
  unfold decodedFields packI wordOpcode wordRd wordFunct3 wordRs1 wordImmI
  simp -index (disch := decide) only [BitVec.extractLsb'_append_eq_of_le,
    BitVec.extractLsb'_append_eq_of_add_le, BitVec.extractLsb'_eq_self]

theorem decodedFields_packS (imm : BitVec 12) :
    decodedFields .S (packS opcode funct3 rs1 rs2 imm) = fieldsS 0 opcode funct3 rs1 rs2 (imm.signExtend 32) := by
  unfold decodedFields packS wordOpcode wordFunct3 wordRs1 wordRs2 wordImmS
  simp -index (disch := decide) only [BitVec.extractLsb'_append_eq_of_le,
    BitVec.extractLsb'_append_eq_of_add_le, BitVec.extractLsb'_append_extractLsb'_eq_extractLsb',
    BitVec.extractLsb'_eq_self]

theorem decodedFields_packB (imm : BitVec 13) :
    decodedFields .B (packB opcode funct3 rs1 rs2 imm)
      = fieldsB 0 opcode funct3 rs1 rs2 ((imm.extractLsb' 1 12 ++ 0#1).signExtend 32) := by
  unfold decodedFields packB wordOpcode wordFunct3 wordRs1 wordRs2 wordImmB
  simp -index (disch := decide) only [BitVec.extractLsb'_append_eq_of_le,
    BitVec.extractLsb'_append_eq_of_add_le, BitVec.extractLsb'_append_extractLsb'_eq_extractLsb',
    BitVec.extractLsb'_eq_self]

theorem decodedFields_packU (imm : Word) :
    decodedFields .U (packU opcode rd imm) = fieldsU 0 opcode rd (imm.extractLsb' 12 20 ++ 0#12) := by
  unfold decodedFields packU wordOpcode wordRd wordImmU
  simp -index (disch := decide) only [BitVec.extractLsb'_append_eq_of_le,
    BitVec.extractLsb'_append_eq_of_add_le, BitVec.extractLsb'_eq_self]

theorem decodedFields_packJ (imm : BitVec 21) :
    decodedFields .J (packJ opcode rd imm)
      = fieldsJ 0 opcode rd ((imm.extractLsb' 1 20 ++ 0#1).signExtend 32) := by
  unfold decodedFields packJ wordOpcode wordRd wordImmJ
  simp -index (disch := decide) only [BitVec.extractLsb'_append_eq_of_le,
    BitVec.extractLsb'_append_eq_of_add_le, BitVec.extractLsb'_append_extractLsb'_eq_extractLsb',
    BitVec.extractLsb'_eq_self]

end

/-! ### Immediates within the port contract -/

/-- A displacement without its bit 0 has the other bits in their places. -/
theorem getLsbD_append_zero {k : Nat} (x : BitVec (k + 1)) (j : Nat) :
    (x.extractLsb' 1 k ++ 0#1).getLsbD j = (decide (j ≠ 0) && x.getLsbD j) := by
  rw [BitVec.getLsbD_append, BitVec.getLsbD_extractLsb']
  cases j with
  | zero => simp
  | succ j =>
    by_cases hj : j < k
    · simp [hj, Nat.add_comm 1 j]
    · have hx : x.getLsbD (j + 1) = false := BitVec.getLsbD_of_ge _ _ (by omega)
      simp [hj, hx]

/-- R178 (b): clearing bit 0 before widening a displacement clears it in the widened one. -/
theorem signExtend_append_zero {k : Nat} (hk : 0 < k) (x : BitVec (k + 1)) :
    (x.extractLsb' 1 k ++ 0#1).signExtend 32 = x.signExtend 32 &&& ~~~1#32 := by
  apply BitVec.eq_of_getLsbD_eq
  intro j hj
  simp only [BitVec.getLsbD_and, BitVec.getLsbD_not, BitVec.getLsbD_signExtend, BitVec.msb_eq_getLsbD_last,
    getLsbD_append_zero, BitVec.getLsbD_one]
  by_cases hzero : j = 0
  · simp [hzero]
  · simp [hj, hzero, hk.ne']

/-- R114: a displacement that is its own low bits widened loses its bit 0 and nothing else. -/
theorem signExtend_append_zero_of_eq {k : Nat} (hk : 0 < k) {imm : Word}
    (h : imm = (imm.extractLsb' 0 (k + 1)).signExtend 32) :
    ((imm.extractLsb' 0 (k + 1)).extractLsb' 1 k ++ 0#1).signExtend 32 = imm &&& ~~~1#32 := by
  rw [signExtend_append_zero hk, ← h]

/-- R114: an upper immediate whose low 12 bits are 0 is its upper 20 bits over twelve zeros. -/
theorem extractLsb'_append_zeros {imm : Word} (h : imm.extractLsb' 0 12 = 0#12) :
    imm.extractLsb' 12 20 ++ 0#12 = imm := by
  rw [← h, BitVec.extractLsb'_append_extractLsb'_eq_extractLsb' (show 12 = 0 + 12 from rfl)]
  exact BitVec.extractLsb'_eq_self

/-! ### The statements -/

/-- Settles O51: an encoder packs the fields that the decoder of its format read. -/
theorem encodingDecodedFieldsGivesTheWord : Obligations.EncodingDecodedFieldsGivesTheWord := by
  unfold Obligations.EncodingDecodedFieldsGivesTheWord
  exact fun f w s => ⟨_, _, step_decoder rfl, step_encoder rfl, packedWord_feedBack f w⟩

/-- Settles O52: the fields of a packed word are the inputs, and an immediate within the port contract is
determined by the bits that its format packs. -/
theorem decodingEncodedFieldsGivesThemBack : Obligations.DecodingEncodedFieldsGivesThemBack := by
  unfold Obligations.DecodingEncodedFieldsGivesThemBack
  intro f s hop hok
  refine ⟨_, _, step_encoder hop, step_decoder rfl, ?_⟩
  cases f with
  | R => exact decodedFields_packR ..
  | I =>
    have hlow := extractLsb'_signExtend_self (by decide) (s.inp.imm.extractLsb' 0 12)
    exact ⟨_, decodedFields_packI .., hlow, Eq.symm, by rw [hlow]⟩
  | S =>
    have himm : s.inp.imm = (s.inp.imm.extractLsb' 0 12).signExtend 32 := beq_iff_eq.mp hok
    exact (decodedFields_packS ..).trans (congrArg _ himm.symm)
  | B =>
    have himm : s.inp.imm = (s.inp.imm.extractLsb' 0 13).signExtend 32 := beq_iff_eq.mp hok
    exact (decodedFields_packB ..).trans (congrArg _ (signExtend_append_zero_of_eq (by decide) himm))
  | U =>
    have himm : s.inp.imm.extractLsb' 0 12 = 0#12 := beq_iff_eq.mp hok
    exact (decodedFields_packU ..).trans (congrArg _ (extractLsb'_append_zeros himm))
  | J =>
    have himm : s.inp.imm = (s.inp.imm.extractLsb' 0 21).signExtend 32 := beq_iff_eq.mp hok
    exact (decodedFields_packJ ..).trans (congrArg _ (signExtend_append_zero_of_eq (by decide) himm))

/-- Settles O23: R171's six fields are those of `decodedFields .R`. -/
theorem decodeRReadsItsFields : Obligations.DecodeRReadsItsFields := by
  unfold Obligations.DecodeRReadsItsFields
  exact decoder_next .R

/-- Settles O24: the immediate is `word[31:20]`, sign-extended. -/
theorem decodeIReadsItsFields : Obligations.DecodeIReadsItsFields := by
  unfold Obligations.DecodeIReadsItsFields
  exact decoder_next .I

/-- Settles O25: the immediate's table packs `word[31:25]` over `word[11:7]`. -/
theorem decodeSReadsItsFields : Obligations.DecodeSReadsItsFields := by
  unfold Obligations.DecodeSReadsItsFields
  exact decoder_next .S

/-- Settles O26: the immediate's table packs four slices above a bit 0 that no spec writes. -/
theorem decodeBReadsItsFields : Obligations.DecodeBReadsItsFields := by
  unfold Obligations.DecodeBReadsItsFields
  exact decoder_next .B

/-- Settles O27: the immediate's table packs `word[31:12]` above twelve bits that no spec writes. -/
theorem decodeUReadsItsFields : Obligations.DecodeUReadsItsFields := by
  unfold Obligations.DecodeUReadsItsFields
  exact decoder_next .U

/-- Settles O28: the immediate's table packs four slices above a bit 0 that no spec writes. -/
theorem decodeJReadsItsFields : Obligations.DecodeJReadsItsFields := by
  unfold Obligations.DecodeJReadsItsFields
  exact decoder_next .J

end Sys2Proof.Machine

/-!
PROOFS. The top-level decode family (spec/45_top_level_decode.md): when a row matches a word, why the computed
check of a table says what R191 says, what the stages of DECODE answer, and what a candidate mnemonic answers.
-/

namespace Sys2Proof

/-! ### When a row matches a word -/

/-- Zero extension to the bus tells signals of one width apart. -/
theorem setWidth_word_inj {k : Nat} (hk : k ≤ 32) {x y : BitVec k} :
    x.setWidth 32 = (y.setWidth 32 : Word) ↔ x = y := by
  refine ⟨fun h => ?_, congrArg _⟩
  rw [← Machine.extractLsb'_zero_setWidth hk x, h, Machine.extractLsb'_zero_setWidth hk]

theorem SubField.holds_iff {sub : SubField} {w : Word} :
    sub.holds w = true ↔ sub.range.ok = true ∧ fieldOf w sub.range = sub.value.setWidth 32 := by
  unfold SubField.holds
  cases h : sub.range.ok with
  | true => simp [extract_of_ok h]
  | false => simp [extract_of_not_ok h]

namespace Row

section
variable {row : Row} {w : Word}

/-- R191, R195: the row takes the word's opcode and its funct3, so it is a candidate of DECODE's last stage. -/
def InStage (row : Row) (w : Word) : Prop :=
  row.opcode = wordOpcode w ∧ (row.funct3 = none ∨ row.funct3 = some (wordFunct3 w))

theorem opcodeMatches_iff : row.opcodeMatches w = true ↔ row.opcode = wordOpcode w := beq_iff_eq

theorem funct3Matches_iff :
    row.funct3Matches w = true ↔ row.funct3 = none ∨ row.funct3 = some (wordFunct3 w) := by
  unfold funct3Matches wordFunct3
  cases row.funct3 with
  | none => simp
  | some f => simp

theorem subMatches_iff : row.subMatches w = true ↔ ∀ sub, row.sub = some sub → sub.holds w = true := by
  unfold subMatches
  cases row.sub with
  | none => simp
  | some sub => simp

theorem matchesWord_iff :
    row.matchesWord w = true ↔ row.InStage w ∧ ∀ sub, row.sub = some sub → sub.holds w = true := by
  rw [matchesWord, Bool.and_eq_true, Bool.and_eq_true, opcodeMatches_iff, funct3Matches_iff, subMatches_iff]
  rfl

end

end Row

/-! ### Parts of a word -/

/-- Every bit of `x` is a bit of `w`. -/
def BitsIn (x w : Word) : Prop := ∀ j, x.getLsbD j = true → w.getLsbD j = true

section
variable {x y u w : Word} {r : BitRange}

theorem bitsIn_or_iff : BitsIn (x ||| y) w ↔ BitsIn x w ∧ BitsIn y w := by
  simp only [BitsIn, BitVec.getLsbD_or, Bool.or_eq_true, or_imp, forall_and]

theorem bitsIn_zero : BitsIn 0#32 w := by simp [BitsIn]

/-- A field in its place is part of the word. -/
theorem bitsIn_fieldOf_shiftLeft : BitsIn (fieldOf w r <<< r.start.toNat) w := by
  intro j hj
  simp only [BitVec.getLsbD_shiftLeft, fieldOf_getLsbD, Bool.and_eq_true, Bool.not_eq_true',
    decide_eq_false_iff_not] at hj
  obtain ⟨⟨-, hstart⟩, -, hbit⟩ := hj
  rwa [show r.start.toNat + (j - r.start.toNat) = j by omega] at hbit

/-- A word between a field of `w` and `w` itself has that field. -/
theorem fieldOf_eq_of_bitsIn (hfield : BitsIn (fieldOf w r <<< r.start.toNat) u) (hu : BitsIn u w) :
    fieldOf u r = fieldOf w r := by
  apply BitVec.eq_of_getLsbD_eq
  intro j hj
  rw [Bool.eq_iff_iff]
  constructor
  · intro h
    rw [fieldOf_getLsbD, Bool.and_eq_true] at h ⊢
    exact ⟨h.1, hu _ h.2⟩
  · intro h
    have hplaced := hfield (r.start.toNat + j)
    rw [BitVec.getLsbD_shiftLeft, Nat.add_sub_cancel_left, h] at hplaced
    rw [fieldOf_getLsbD, Bool.and_eq_true] at h ⊢
    have hlt : r.start.toNat + j < 32 := BitVec.lt_of_getLsbD h.2
    exact ⟨h.1, hplaced (by simp [hlt])⟩

/-- A slice in its place is part of the word. -/
theorem bitsIn_slice (w : Word) (a k : Nat) : BitsIn ((w.extractLsb' a k).setWidth 32 <<< a) w := by
  rw [← Machine.fieldOf_rng]
  exact bitsIn_fieldOf_shiftLeft

/-- A word between a slice of `w` and `w` itself has that slice. -/
theorem slice_eq_of_bitsIn {a k : Nat} (hk : k ≤ 32)
    (hslice : BitsIn ((w.extractLsb' a k).setWidth 32 <<< a) u) (hu : BitsIn u w) :
    u.extractLsb' a k = w.extractLsb' a k := by
  rw [← setWidth_word_inj hk, ← Machine.fieldOf_rng, ← Machine.fieldOf_rng]
  rw [← Machine.fieldOf_rng] at hslice
  exact fieldOf_eq_of_bitsIn hslice hu

end

/-! ### Two rows that match one word -/

namespace Row

section
variable {row : Row} {u w : Word}

theorem bitsIn_pattern_iff :
    BitsIn row.pattern u ↔ BitsIn (row.opcode.setWidth 32 <<< 0) u ∧ BitsIn (funct3Bits row.funct3) u
      ∧ BitsIn (subBits row.sub) u := by
  rw [pattern, bitsIn_or_iff, bitsIn_or_iff, BitVec.shiftLeft_zero, and_assoc]

/-- R191: a word that a row matches has the bits that the row asks for. -/
theorem bitsIn_pattern (h : row.matchesWord w = true) : BitsIn row.pattern w := by
  obtain ⟨⟨hop, hf3⟩, hsub⟩ := matchesWord_iff.mp h
  refine bitsIn_pattern_iff.mpr ⟨?_, ?_, ?_⟩
  · rw [hop]
    exact bitsIn_slice w 0 7
  · obtain hf3 | hf3 := hf3 <;> rw [hf3]
    · exact bitsIn_zero
    · exact bitsIn_slice w 12 3
  · cases hrow : row.sub with
    | none => exact bitsIn_zero
    | some sub =>
      rw [subBits, ← (SubField.holds_iff.mp (hsub sub hrow)).2]
      exact bitsIn_fieldOf_shiftLeft

/-- R191: a row that matches a word matches every part of it that has the bits the row asks for. -/
theorem matchesWord_of_bitsIn (h : row.matchesWord w = true) (hpattern : BitsIn row.pattern u)
    (hu : BitsIn u w) : row.matchesWord u = true := by
  obtain ⟨⟨hop, hf3⟩, hsub⟩ := matchesWord_iff.mp h
  obtain ⟨hopIn, hf3In, hsubIn⟩ := bitsIn_pattern_iff.mp hpattern
  refine matchesWord_iff.mpr ⟨⟨?_, hf3.imp_right fun hf3 => ?_⟩, fun sub hrow => ?_⟩
  · rw [hop] at hopIn
    exact hop.trans (slice_eq_of_bitsIn (by decide) hopIn hu).symm
  · rw [hf3] at hf3In
    exact hf3.trans (congrArg some (slice_eq_of_bitsIn (by decide) hf3In hu).symm)
  · obtain ⟨hok, hfield⟩ := SubField.holds_iff.mp (hsub sub hrow)
    rw [hrow, subBits, ← hfield] at hsubIn
    exact SubField.holds_iff.mpr ⟨hok, (fieldOf_eq_of_bitsIn hsubIn hu).trans hfield⟩

end

/-- R191 (WF2): two rows match a common word exactly when both match the union of their patterns. -/
theorem clashes_iff {a b : Row} :
    a.clashes b = true ↔ ∃ w, a.matchesWord w = true ∧ b.matchesWord w = true := by
  rw [clashes, Bool.and_eq_true, Bool.and_eq_true, beq_iff_eq]
  refine ⟨fun ⟨⟨_, ha⟩, hb⟩ => ⟨_, ha, hb⟩, fun ⟨w, ha, hb⟩ => ?_⟩
  have hunion : BitsIn (a.pattern ||| b.pattern) w := bitsIn_or_iff.mpr ⟨bitsIn_pattern ha, bitsIn_pattern hb⟩
  have hself : BitsIn (a.pattern ||| b.pattern) (a.pattern ||| b.pattern) := fun _ => id
  obtain ⟨haIn, hbIn⟩ := bitsIn_or_iff.mp hself
  obtain ⟨⟨haop, -⟩, -⟩ := matchesWord_iff.mp ha
  obtain ⟨⟨hbop, -⟩, -⟩ := matchesWord_iff.mp hb
  exact ⟨⟨haop.trans hbop.symm, matchesWord_of_bitsIn ha haIn hunion⟩,
    matchesWord_of_bitsIn hb hbIn hunion⟩

/-! ### Two rows of one last stage -/

/-- Every opcode and funct3 are some word's. -/
theorem exists_word (opcode : BitVec 7) (funct3 : BitVec 3) :
    ∃ w, wordOpcode w = opcode ∧ wordFunct3 w = funct3 :=
  have h := Machine.decodedFields_packR opcode funct3 0 0 0 0
  ⟨packR opcode funct3 0 0 0 0, congrArg Machine.Outputs.opcode h, congrArg Machine.Outputs.funct3 h⟩

theorem sameStage_iff_funct3 {a b : Row} :
    a.sameStage b = true
      ↔ a.opcode = b.opcode ∧ ∀ f g, a.funct3 = some f → b.funct3 = some g → f = g := by
  rw [sameStage, Bool.and_eq_true, beq_iff_eq]
  cases a.funct3 <;> cases b.funct3 <;> simp

/-- R191 (WF3): two rows are of one stage exactly when some word brings both to the last stage. -/
theorem sameStage_iff {a b : Row} : a.sameStage b = true ↔ ∃ w, a.InStage w ∧ b.InStage w := by
  rw [sameStage_iff_funct3]
  constructor
  · rintro ⟨hop, hf3⟩
    obtain ⟨w, hwop, hwf3⟩ := exists_word a.opcode ((a.funct3.or b.funct3).getD 0)
    refine ⟨w, ⟨hwop.symm, ?_⟩, hop.symm.trans hwop.symm, ?_⟩
    · rw [hwf3]
      cases a.funct3 with
      | none => exact .inl rfl
      | some f => exact .inr rfl
    · rw [hwf3]
      cases hb : b.funct3 with
      | none => exact .inl rfl
      | some g =>
        cases ha : a.funct3 with
        | none => exact .inr rfl
        | some f => exact .inr (congrArg some (hf3 f g ha hb).symm)
  · rintro ⟨w, ⟨haop, haf3⟩, hbop, hbf3⟩
    refine ⟨haop.trans hbop.symm, fun f g hf hg => ?_⟩
    simp only [hf, hg, reduceCtorEq, false_or, Option.some.injEq] at haf3 hbf3
    exact haf3.trans hbf3.symm

/-- R191 (WF3) of one pair of rows: at one last stage their sub-fields have one kind and one range. -/
def Agree (a b : Row) : Prop :=
  ∀ sa sb, a.sub = some sa → b.sub = some sb → ∀ w, a.InStage w → b.InStage w →
    sa.kind = sb.kind ∧ sa.range = sb.range

theorem Agree.symm {a b : Row} (h : a.Agree b) : b.Agree a := fun sb sa hb ha w hbw haw =>
  (h sa sb ha hb w haw hbw).imp Eq.symm Eq.symm

theorem Agree.refl (a : Row) : a.Agree a := fun sa sb ha hb _ _ _ => by
  obtain rfl : sa = sb := Option.some.inj (ha.symm.trans hb)
  exact ⟨rfl, rfl⟩

theorem subsAgree_iff {a b : Row} : a.subsAgree b = true ↔ a.Agree b := by
  unfold subsAgree Agree
  cases a.sub with
  | none => simp
  | some sa =>
    cases b.sub with
    | none => simp
    | some sb =>
      simp only [Bool.or_eq_true, Bool.not_eq_true', ← Bool.not_eq_true, sameStage_iff, Bool.and_eq_true,
        beq_iff_eq, Option.some.injEq]
      constructor
      · rintro h _ _ rfl rfl w ha hb
        exact h.resolve_left fun hnone => hnone ⟨w, ha, hb⟩
      · intro h
        by_cases hstage : ∃ w, a.InStage w ∧ b.InStage w
        · obtain ⟨w, ha, hb⟩ := hstage
          exact .inr (h sa sb rfl rfl w ha hb)
        · exact .inl hstage

end Row

/-! ### The check of a table -/

section
variable {rows : List Row}

theorem wf1_iff : WF1 rows ↔ rows.all Row.shapeOk = true := by
  simp only [WF1, List.all_eq_true]
  refine forall₂_congr fun row _ => ?_
  unfold Row.shapeOk
  cases row.sub with
  | none => simp
  | some sub => simp [and_assoc]

theorem wf2_iff : WF2 rows ↔ rows.Pairwise fun a b => a.clashes b = false := by
  simp only [WF2, ← Bool.not_eq_true, Row.clashes_iff, not_exists, List.pairwise_iff_getElem]
  exact ⟨fun h i j hi hj hij w => h w i j hi hj hij, fun h w i j hi hj hij => h i j hi hj hij w⟩

theorem wf3_iff_agree : WF3 rows ↔ ∀ a ∈ rows, ∀ b ∈ rows, a.Agree b := by
  simp only [WF3, Row.opcodeMatches_iff, Row.funct3Matches_iff]
  exact ⟨fun h a ha b hb sa sb hsa hsb w haw hbw => h w a ha b hb sa sb hsa hsb haw.1 haw.2 hbw.1 hbw.2,
    fun h w a ha b hb sa sb hsa hsb ha1 ha2 hb1 hb2 => h a ha b hb sa sb hsa hsb w ⟨ha1, ha2⟩ ⟨hb1, hb2⟩⟩

/-- R191 (WF3): agreement is symmetric, and every row agrees with itself, so the pairs in order are enough. -/
theorem wf3_iff : WF3 rows ↔ rows.Pairwise fun a b => a.subsAgree b = true := by
  simp only [wf3_iff_agree, Row.subsAgree_iff]
  exact ⟨List.pairwise_of_forall_mem_list, fun h a ha b hb =>
    h.forall_of_forall_of_flip (fun a _ => Row.Agree.refl a) (h.imp Row.Agree.symm) ha hb⟩

theorem allPairs_iff {f : Row → Row → Bool} :
    allPairs f rows = true ↔ rows.Pairwise fun a b => f a b = true := by
  induction rows with
  | nil => simp [allPairs]
  | cons row rest ih => simp [allPairs, ih]

theorem indicesFrom_iff {n : Nat} :
    indicesFrom n rows = true ↔ ∀ i, ∀ h : i < rows.length, (rows[i]'h).idx.toNat = n + i := by
  induction rows generalizing n with
  | nil => simp [indicesFrom]
  | cons row rest ih =>
    rw [indicesFrom, Bool.and_eq_true, beq_iff_eq, ih]
    constructor
    · rintro ⟨hrow, hrest⟩ (_ | i) h
      · exact hrow
      · exact (hrest i (Nat.lt_of_succ_lt_succ h)).trans (by omega)
    · intro h
      exact ⟨h 0 (Nat.succ_pos _), fun i hi => (h (i + 1) (Nat.succ_lt_succ hi)).trans (by omega)⟩

theorem wf4_iff : WF4 rows ↔ indicesFrom 0 rows = true := by
  simp only [WF4, indicesFrom_iff, Nat.zero_add]

/-- R190, R191: the check that computes says what the conditions say over every word. -/
theorem dispatchWf_iff :
    dispatchWf rows = true ↔ RowCount rows ∧ WF1 rows ∧ WF2 rows ∧ WF3 rows ∧ WF4 rows := by
  simp only [dispatchWf, Bool.and_eq_true, decide_eq_true_eq, allPairs_iff, Bool.not_eq_true',
    List.pairwise_and_iff, RowCount, wf1_iff, wf2_iff, wf3_iff, wf4_iff, and_assoc]

end

/-! ### What a well-formed table gives -/

namespace Dispatch

variable (d : Dispatch)

/-- R191 (WF2): at most one row matches a word. -/
theorem eq_of_matchesWord {w : Word} {a b : Row} (ha : a ∈ d.rows) (hb : b ∈ d.rows)
    (haw : a.matchesWord w = true) (hbw : b.matchesWord w = true) : a = b := by
  obtain ⟨-, -, hwf2, -⟩ := dispatchWf_iff.mp d.wellFormed
  have hsymm : Std.Symm fun a b : Row => ¬ (a.matchesWord w = true ∧ b.matchesWord w = true) :=
    ⟨fun _ _ h hba => h hba.symm⟩
  by_contra hne
  exact (hwf2 w).forall ha hb hne ⟨haw, hbw⟩

/-- R191 (WF3): the rows of a word's last stage have one kind and one range. -/
theorem agree {a b : Row} (ha : a ∈ d.rows) (hb : b ∈ d.rows) : a.Agree b := by
  obtain ⟨-, -, -, hwf3, -⟩ := dispatchWf_iff.mp d.wellFormed
  exact wf3_iff_agree.mp hwf3 a ha b hb

end Dispatch

end Sys2Proof

namespace Sys2Proof.Machine

/-! ### The stages of DECODE -/

section
variable {row : Row} {w : Word}

/-- R195: the first stage asks R191's first condition. -/
theorem takesOpcode_wordOpcode : row.takesOpcode ((wordOpcode w).setWidth 32) = row.opcodeMatches w := by
  rw [Bool.eq_iff_iff, Row.takesOpcode, beq_iff_eq, setWidth_word_inj (by decide), Row.opcodeMatches_iff]

/-- R195: the second stage asks R191's second condition. -/
theorem takesFunct3_wordFunct3 : row.takesFunct3 ((wordFunct3 w).setWidth 32) = row.funct3Matches w := by
  rw [Bool.eq_iff_iff, Row.funct3Matches_iff, Row.takesFunct3]
  cases row.funct3 with
  | none => simp
  | some f => simp [setWidth_word_inj]

/-- R195: at the last stage, a row whose sub-field is of the range read asks R191's third condition. -/
theorem takesSub_fieldOf {r : BitRange} (hr : r.ok = true)
    (hrange : ∀ sub, row.sub = some sub → sub.range = r) :
    row.takesSub (fieldOf w r) = row.subMatches w := by
  rw [Bool.eq_iff_iff, Row.subMatches_iff, Row.takesSub]
  cases hsub : row.sub with
  | none => simp
  | some sub => simp [SubField.holds_iff, hrange sub hsub, hr, eq_comm (a := fieldOf w r)]

end

/-- R195: the rows that DECODE's last stage is about. -/
def stageRows (rows : List Row) (w : Word) : List Row :=
  (rows.filter (·.opcodeMatches w)).filter (·.funct3Matches w)

theorem mem_stageRows {rows : List Row} {row : Row} {w : Word} :
    row ∈ stageRows rows w ↔ row ∈ rows ∧ row.InStage w := by
  rw [stageRows, List.mem_filter, List.mem_filter, Row.opcodeMatches_iff, Row.funct3Matches_iff, and_assoc]
  rfl

/-- R195, R197: why DECODE rejects a word, and the error that says so. -/
inductive Rejects (rows : List Row) (w : Word) : DecodeError → Prop
  | opcode (hop : ∀ row ∈ rows, row.opcode ≠ wordOpcode w) :
      Rejects rows w ⟨.opcode, (wordOpcode w).setWidth 12⟩
  | funct3 {row : Row} (hrow : row ∈ rows) (hop : row.opcode = wordOpcode w)
      (hf3 : ∀ row ∈ rows, ¬ row.InStage w) : Rejects rows w ⟨.funct3, (wordFunct3 w).setWidth 12⟩
  | sub {row : Row} {sub : SubField} (hrow : row ∈ rows) (hstage : row.InStage w) (hsub : row.sub = some sub)
      (hnone : ∀ r ∈ rows, r.matchesWord w = false) :
      Rejects rows w ⟨.sub sub.kind, (fieldOf w sub.range).setWidth 12⟩

/-- R195: the three ways through the stages: a rejection by opcode or by funct3, the first row of a last stage
without sub-fields, or the sub-field of some row of the last stage. -/
theorem selectRow_stages (rows : List Row) (w : Word) :
    (∃ e, selectRow rows w = .ok (.error e) ∧ Rejects rows w e)
      ∨ (∃ row ∈ stageRows rows w, selectRow rows w = .ok (.ok row) ∧ ∀ r ∈ stageRows rows w, r.sub = none)
      ∨ ∃ row ∈ stageRows rows w, ∃ first, row.sub = some first
          ∧ selectRow rows w = selectBySub (stageRows rows w) first w := by
  simp (disch := decide) only [selectRow, extract_opcode, extract_funct3, takesOpcode_wordOpcode,
    takesFunct3_wordFunct3, BitVec.setWidth_setWidth_of_le, bind, Except.bind]
  split
  next hop =>
    exact .inl ⟨_, rfl, .opcode fun row hrow =>
      mt Row.opcodeMatches_iff.mpr (List.filter_eq_nil_iff.mp hop row hrow)⟩
  next hop =>
  obtain ⟨a, ha⟩ := List.exists_mem_of_ne_nil _ hop
  obtain ⟨hrow, haop⟩ := List.mem_filter.mp ha
  split
  next hstage =>
    have hrows : stageRows rows w = [] := hstage
    refine .inl ⟨_, rfl, .funct3 hrow (Row.opcodeMatches_iff.mp haop) fun r hr hin => ?_⟩
    exact List.not_mem_nil (hrows ▸ mem_stageRows.mpr ⟨hr, hin⟩)
  next row rest hstage =>
  have hrows : stageRows rows w = row :: rest := hstage
  rw [hrows]
  split
  next hsubs =>
    exact .inr (.inl ⟨row, List.mem_cons_self .., rfl, List.filterMap_eq_nil_iff.mp hsubs⟩)
  next first _ hsubs =>
    have hfirst : first ∈ (row :: rest).filterMap Row.sub := hsubs ▸ List.mem_cons_self ..
    obtain ⟨b, hb, hsub⟩ := List.mem_filterMap.mp hfirst
    exact .inr (.inr ⟨b, hb, first, hsub, rfl⟩)

/-- R195: the last stage answers a row that matches, or the bits of a sub-field when none does. -/
theorem selectBySub_cases (d : Dispatch) {w : Word} {row : Row} {first : SubField}
    (hrow : row ∈ stageRows d.rows w) (hsub : row.sub = some first) :
    (∃ r ∈ d.rows, r.matchesWord w = true ∧ selectBySub (stageRows d.rows w) first w = .ok (.ok r))
      ∨ ∃ e, selectBySub (stageRows d.rows w) first w = .ok (.error e) ∧ Rejects d.rows w e := by
  obtain ⟨hmem, hin⟩ := mem_stageRows.mp hrow
  have hok : first.range.ok = true := d.sub_range_ok hmem hsub
  have htakes : ∀ r ∈ stageRows d.rows w, r.takesSub (fieldOf w first.range) = r.matchesWord w := by
    intro r hr
    obtain ⟨hrmem, hrin⟩ := mem_stageRows.mp hr
    have hrange : ∀ sub, r.sub = some sub → sub.range = first.range := fun sub hrsub =>
      (d.agree hrmem hmem sub first hrsub hsub w hrin hin).2
    rw [takesSub_fieldOf hok hrange, Bool.eq_iff_iff, Row.subMatches_iff, Row.matchesWord_iff,
      and_iff_right hrin]
  simp only [selectBySub, extract_of_ok hok, List.filter_congr htakes, bind, Except.bind]
  split
  next hnone =>
    refine .inr ⟨_, rfl, .sub hmem hin hsub fun r hr => Bool.eq_false_iff.mpr fun hmatch => ?_⟩
    have hrin : r ∈ stageRows d.rows w := mem_stageRows.mpr ⟨hr, (Row.matchesWord_iff.mp hmatch).1⟩
    exact List.filter_eq_nil_iff.mp hnone r hrin hmatch
  next r _ hmatches =>
    have hr : r ∈ (stageRows d.rows w).filter (·.matchesWord w) := hmatches ▸ List.mem_cons_self ..
    obtain ⟨hrstage, hmatch⟩ := List.mem_filter.mp hr
    exact .inl ⟨r, (mem_stageRows.mp hrstage).1, hmatch, rfl⟩

/-- R195, R196: the stages answer a row that matches the word, or the reason why none does. -/
theorem selectRow_cases (d : Dispatch) (w : Word) :
    (∃ row ∈ d.rows, row.matchesWord w = true ∧ selectRow d.rows w = .ok (.ok row))
      ∨ ∃ e, selectRow d.rows w = .ok (.error e) ∧ Rejects d.rows w e := by
  obtain ⟨e, he, hrejects⟩ | ⟨row, hrow, hanswer, hnosub⟩ | ⟨row, hrow, first, hsub, hanswer⟩ :=
    selectRow_stages d.rows w
  · exact .inr ⟨e, he, hrejects⟩
  · obtain ⟨hmem, hin⟩ := mem_stageRows.mp hrow
    refine .inl ⟨row, hmem, Row.matchesWord_iff.mpr ⟨hin, fun sub hsub => ?_⟩, hanswer⟩
    cases (hnosub row hrow).symm.trans hsub
  · rw [hanswer]
    exact selectBySub_cases d hrow hsub

/-- R196: a word that DECODE rejects matches no row. -/
theorem Rejects.matchesWord_eq_false {rows : List Row} {row : Row} {w : Word} {e : DecodeError}
    (h : Rejects rows w e) (hrow : row ∈ rows) : row.matchesWord w = false := by
  rw [← Bool.not_eq_true, Row.matchesWord_iff]
  rintro ⟨hin, hsub⟩
  cases h with
  | opcode hop => exact hop row hrow hin.1
  | funct3 _ _ hf3 => exact hf3 row hrow hin
  | sub _ _ _ hnone => cases (hnone row hrow).symm.trans (Row.matchesWord_iff.mpr ⟨hin, hsub⟩)

/-- R191 (WF3), R197: with a well-formed `DISPATCH` there is one reason at most. -/
theorem Rejects.unique {d : Dispatch} {w : Word} {e e' : DecodeError} (h : Rejects d.rows w e)
    (h' : Rejects d.rows w e') : e = e' := by
  cases h with
  | opcode hop =>
    cases h' with
    | opcode => rfl
    | funct3 hrow hop' => exact absurd hop' (hop _ hrow)
    | sub hrow hin => exact absurd hin.1 (hop _ hrow)
  | funct3 hrow hop hf3 =>
    cases h' with
    | opcode hop' => exact absurd hop (hop' _ hrow)
    | funct3 => rfl
    | sub hrow' hin => exact absurd hin (hf3 _ hrow')
  | sub hrow hin hsub =>
    cases h' with
    | opcode hop => exact absurd hin.1 (hop _ hrow)
    | funct3 _ _ hf3 => exact absurd hin (hf3 _ hrow)
    | sub hrow' hin' hsub' =>
      obtain ⟨hkind, hrange⟩ := d.agree hrow hrow' _ _ hsub hsub' w hin hin'
      rw [hkind, hrange]

/-! ### What DECODE answers -/

section
variable {s : State} {w : Word}

/-- R195: DECODE of a word that a row matches drives the fields of the row's format and the row's index. -/
theorem recognise_of_matchesWord {row : Row} (hrow : row ∈ s.dispatch.rows) (hmatch : row.matchesWord w = true) :
    recognise w s = .next { s with out := { decodedFields row.fmt w with mnem := row.idx } } := by
  obtain ⟨r, hr, hrmatch, hselect⟩ | ⟨e, -, hrejects⟩ := selectRow_cases s.dispatch w
  · obtain rfl : r = row := s.dispatch.eq_of_matchesWord hr hrow hrmatch hmatch
    simp only [recognise, decodeOutputs, hselect, decFields_eq, bind, Except.bind]
    rfl
  · cases (hrejects.matchesWord_eq_false hrow).symm.trans hmatch

/-- R196, R197: DECODE of a word that it rejects drives the error, every other output 0. -/
theorem recognise_of_rejects {e : DecodeError} (h : Rejects s.dispatch.rows w e) :
    recognise w s = .next { s with out := derrOutputs e.kind.code e.bits } := by
  obtain ⟨r, hr, hrmatch, -⟩ | ⟨e', hselect, hrejects⟩ := selectRow_cases s.dispatch w
  · cases (h.matchesWord_eq_false hr).symm.trans hrmatch
  · obtain rfl : e = e' := h.unique hrejects
    simp only [recognise, decodeOutputs, hselect, bind, Except.bind]
    rfl

end

/-- R197: no kind code is 0. -/
theorem DerrKind.code_ne_zero (k : DerrKind) : k.code ≠ 0#3 := by
  cases k with
  | opcode => decide
  | funct3 => decide
  | sub k => cases k <;> decide

/-! ### The statements of DECODE -/

/-- Settles O7: the block's own tables, ranges and widths pass, and the rows' check says what R190 and R191 say. -/
theorem buildTakesExactlyWellFormedTables : Obligations.BuildTakesExactlyWellFormedTables := by
  unfold Obligations.BuildTakesExactlyWellFormedTables
  intro rows
  rw [← dispatchWf_iff, build, if_pos (by decide)]
  exact ⟨fun h => ⟨⟨rows, h⟩, rfl, dif_pos h⟩, fun h => dif_neg h⟩

/-- Settles O29: the matching row is the one that the stages select. -/
theorem decodeOfAMatchedWord : Obligations.DecodeOfAMatchedWord := by
  unfold Obligations.DecodeOfAMatchedWord
  intro s row hrow hmatch
  refine ⟨decodedFields row.fmt s.inp.selected, step_decoder rfl, recognise_of_matchesWord hrow hmatch, ?_⟩
  cases row.fmt <;> exact ⟨rfl, rfl⟩

/-- Settles O30: the first stage has no row. -/
theorem decodeReportsABadOpcode : Obligations.DecodeReportsABadOpcode := by
  unfold Obligations.DecodeReportsABadOpcode
  exact fun s hop => recognise_of_rejects (.opcode hop)

/-- Settles O31: the first stage has a row, the second none. -/
theorem decodeReportsABadFunct3 : Obligations.DecodeReportsABadFunct3 := by
  unfold Obligations.DecodeReportsABadFunct3
  rintro s ⟨row, hrow, hop⟩ hf3
  refine recognise_of_rejects (.funct3 hrow hop fun r hr hin => ?_)
  obtain ⟨hrop, hrf3⟩ := hin
  obtain ⟨f, hf, hne⟩ := hf3 r hr hrop
  rw [hf] at hrf3
  exact hne (Option.some.inj (hrf3.resolve_left nofun))

/-- Settles O32: the last stage has a row with a sub-field, and no row of it has the word's bits there. -/
theorem decodeReportsABadSubField : Obligations.DecodeReportsABadSubField := by
  unfold Obligations.DecodeReportsABadSubField
  intro s row sub hrow hsub hop hf3 hnone bits
  have hbits : (fieldOf s.inp.selected sub.range).setWidth 12 = bits := by
    rw [fieldOf_eq_ofNat, BitVec.setWidth_ofNat_of_le (by decide)]
  have hkind : (DerrKind.sub sub.kind).code = subKindCode sub.kind := by
    cases sub.kind <;> rfl
  rw [← hbits, ← hkind]
  exact recognise_of_rejects (.sub hrow ⟨hop, hf3⟩ hsub hnone)

/-- Settles O33: a word either matches a row, whose fields report no error, or is rejected for one reason. -/
theorem decodeSucceedsExactlyOnMatchedWords : Obligations.DecodeSucceedsExactlyOnMatchedWords := by
  unfold Obligations.DecodeSucceedsExactlyOnMatchedWords
  intro s
  have hunique : ∀ a ∈ s.dispatch.rows, ∀ b ∈ s.dispatch.rows, a.matchesWord s.inp.selected = true →
      b.matchesWord s.inp.selected = true → a = b := fun _ ha _ hb => s.dispatch.eq_of_matchesWord ha hb
  obtain ⟨row, hrow, hmatch, -⟩ | ⟨e, -, hrejects⟩ := selectRow_cases s.dispatch s.inp.selected
  · refine ⟨_, recognise_of_matchesWord hrow hmatch, iff_of_true ?_ ⟨row, hrow, hmatch⟩, hunique⟩
    cases row.fmt <;> rfl
  · refine ⟨_, recognise_of_rejects hrejects, iff_of_false e.kind.code_ne_zero ?_, hunique⟩
    rintro ⟨row, hrow, hmatch⟩
    cases (hrejects.matchesWord_eq_false hrow).symm.trans hmatch

end Sys2Proof.Machine

namespace Sys2Proof

/-- R191: a sub-field of a `k`-bit value holds in a word with that value at the sub-field's slice. -/
theorem SubField.holds_of_slice {kind : SubKind} {a k : Nat} {value : BitVec k} {w : Word} (hk : k ≤ 12)
    (hok : (Machine.rng a (a + k : Nat)).ok = true) (hslice : w.extractLsb' a k = value) :
    SubField.holds ⟨kind, Machine.rng a (a + k : Nat), value.setWidth 12⟩ w = true := by
  refine SubField.holds_iff.mpr ⟨hok, ?_⟩
  rw [Machine.fieldOf_rng, hslice, BitVec.setWidth_setWidth (by omega)]

end Sys2Proof

namespace Sys2Proof.Machine

/-! ### The candidate's words

A mnemonic of the candidate is DECODE of its packed word (assumption log 11), so it answers what the one row that
matches the word says. -/

/-- The bits of an immediate that its format does not store are its low ones, and they decode as 0. -/
theorem extractLsb'_append_zeros_eq_and {n k : Nat} (x : BitVec (k + n)) :
    x.extractLsb' n k ++ 0#n = x &&& (BitVec.allOnes k ++ 0#n) := by
  apply BitVec.eq_of_getLsbD_eq
  intro j hj
  rw [BitVec.getLsbD_and, BitVec.getLsbD_append, BitVec.getLsbD_append]
  by_cases hlow : j < n
  · simp [hlow]
  · simp [hlow, show n + (j - n) = j by omega, Bool.and_comm]

section
variable {i : Instr} {s : State} {idx : BitVec 8} {opcode : BitVec 7} {funct3 : BitVec 3} {rd rs1 rs2 : Reg}

/-- R195: a mnemonic whose word a row of the candidate matches answers the fields of the row's format and its
index. -/
theorem exec_of_candidateRow {row : Row} {w : Word} {o : Outputs} (hd : s.dispatch = candidateDispatch)
    (hi : encodeWord i = some w) (hrow : row ∈ candidateRows) (hfields : decodedFields row.fmt w = o)
    (hstage : row.InStage w) (hsub : ∀ sub, row.sub = some sub → sub.holds w = true) :
    exec i s = .next { s with out := { o with mnem := row.idx } } := by
  rw [exec_of_encodeWord hi, ← hfields]
  exact recognise_of_matchesWord (hd ▸ hrow) (Row.matchesWord_iff.mpr ⟨hstage, hsub⟩)

theorem exec_candidateR {kind : SubKind} {funct7 : BitVec 7} (hd : s.dispatch = candidateDispatch)
    (hi : encodeWord i = some (packR opcode funct3 funct7 rd rs1 rs2))
    (hrow : ⟨idx, .R, opcode, some funct3, some ⟨kind, highSeven, funct7.setWidth 12⟩⟩ ∈ candidateRows) :
    exec i s = .next { s with out := fieldsR idx opcode rd funct3 rs1 rs2 funct7 } := by
  have hfields := decodedFields_packR opcode funct3 rd rs1 rs2 funct7
  refine exec_of_candidateRow hd hi hrow hfields
    ⟨(congrArg Outputs.opcode hfields).symm, .inr (congrArg (some ∘ Outputs.funct3) hfields).symm⟩ ?_
  rintro _ ⟨⟩
  exact SubField.holds_of_slice (a := 25) (by decide) rfl (congrArg Outputs.funct7 hfields)

theorem exec_candidateI {sub : Option SubField} {imm : BitVec 12} (hd : s.dispatch = candidateDispatch)
    (hi : encodeWord i = some (packI opcode funct3 rd rs1 imm))
    (hrow : ⟨idx, .I, opcode, some funct3, sub⟩ ∈ candidateRows)
    (hsub : ∀ x, sub = some x → x.holds (packI opcode funct3 rd rs1 imm) = true) :
    exec i s = .next { s with out := fieldsI idx opcode rd funct3 rs1 (imm.signExtend 32) } := by
  have hfields := decodedFields_packI opcode funct3 rd rs1 imm
  exact exec_of_candidateRow hd hi hrow hfields
    ⟨(congrArg Outputs.opcode hfields).symm, .inr (congrArg (some ∘ Outputs.funct3) hfields).symm⟩ hsub

/-- R192: the fence mode is the high 4 bits of the word's immediate. -/
theorem exec_candidateFence {fm pred succ : BitVec 4} (hd : s.dispatch = candidateDispatch)
    (hi : encodeWord i = some (packI opcode funct3 rd rs1 (fm ++ pred ++ succ)))
    (hrow : ⟨idx, .I, opcode, some funct3, some ⟨.fenceMode, highFour, fm.setWidth 12⟩⟩ ∈ candidateRows) :
    exec i s = .next { s with out := fieldsI idx opcode rd funct3 rs1 ((fm ++ pred ++ succ).signExtend 32) } := by
  refine exec_candidateI hd hi hrow ?_
  rintro _ ⟨⟩
  refine SubField.holds_of_slice (a := 28) (k := 4) (by decide) rfl ?_
  unfold packI
  simp -index (disch := decide) only [BitVec.extractLsb'_append_eq_of_le, BitVec.extractLsb'_eq_self]

/-- R192: the sub-code of a system call is the word's whole immediate. -/
theorem exec_candidateCall {imm : BitVec 12} (hd : s.dispatch = candidateDispatch)
    (hi : encodeWord i = some (packI opcode funct3 rd rs1 imm))
    (hrow : ⟨idx, .I, opcode, some funct3, some ⟨.funct12, highTwelve, imm.setWidth 12⟩⟩ ∈ candidateRows) :
    exec i s = .next { s with out := fieldsI idx opcode rd funct3 rs1 (imm.signExtend 32) } := by
  refine exec_candidateI hd hi hrow ?_
  rintro _ ⟨⟩
  refine SubField.holds_of_slice (a := 20) (k := 12) (by decide) rfl ?_
  unfold packI
  simp -index (disch := decide) only [BitVec.extractLsb'_append_eq_of_le, BitVec.extractLsb'_eq_self]

theorem exec_candidateS {imm : BitVec 12} (hd : s.dispatch = candidateDispatch)
    (hi : encodeWord i = some (packS opcode funct3 rs1 rs2 imm))
    (hrow : ⟨idx, .S, opcode, some funct3, none⟩ ∈ candidateRows) :
    exec i s = .next { s with out := fieldsS idx opcode funct3 rs1 rs2 (imm.signExtend 32) } := by
  have hfields := decodedFields_packS opcode funct3 rs1 rs2 imm
  exact exec_of_candidateRow hd hi hrow hfields
    ⟨(congrArg Outputs.opcode hfields).symm, .inr (congrArg (some ∘ Outputs.funct3) hfields).symm⟩ nofun

theorem exec_candidateB {imm : BitVec 13} (hd : s.dispatch = candidateDispatch)
    (hi : encodeWord i = some (packB opcode funct3 rs1 rs2 imm))
    (hrow : ⟨idx, .B, opcode, some funct3, none⟩ ∈ candidateRows) :
    exec i s = .next { s with out := fieldsB idx opcode funct3 rs1 rs2 ((imm &&& 0x1FFE#13).signExtend 32) } := by
  have hfields := decodedFields_packB opcode funct3 rs1 rs2 imm
  rw [extractLsb'_append_zeros_eq_and] at hfields
  exact exec_of_candidateRow hd hi hrow hfields
    ⟨(congrArg Outputs.opcode hfields).symm, .inr (congrArg (some ∘ Outputs.funct3) hfields).symm⟩ nofun

theorem exec_candidateU {imm : Word} (hd : s.dispatch = candidateDispatch)
    (hi : encodeWord i = some (packU opcode rd imm)) (hrow : ⟨idx, .U, opcode, none, none⟩ ∈ candidateRows) :
    exec i s = .next { s with out := fieldsU idx opcode rd (imm &&& 0xFFFFF000#32) } := by
  have hfields := decodedFields_packU opcode rd imm
  rw [extractLsb'_append_zeros_eq_and] at hfields
  exact exec_of_candidateRow hd hi hrow hfields ⟨(congrArg Outputs.opcode hfields).symm, .inl rfl⟩ nofun

theorem exec_candidateJ {imm : BitVec 21} (hd : s.dispatch = candidateDispatch)
    (hi : encodeWord i = some (packJ opcode rd imm)) (hrow : ⟨idx, .J, opcode, none, none⟩ ∈ candidateRows) :
    exec i s = .next { s with out := fieldsJ idx opcode rd ((imm &&& 0x1FFFFE#21).signExtend 32) } := by
  have hfields := decodedFields_packJ opcode rd imm
  rw [extractLsb'_append_zeros_eq_and] at hfields
  exact exec_of_candidateRow hd hi hrow hfields ⟨(congrArg Outputs.opcode hfields).symm, .inl rfl⟩ nofun

end

/-! ### The statements of the candidate's mnemonics -/

/-- Settles O37: rows 0 to 2 take every word of their opcode. -/
theorem candidateUpperAndJumpResults : Obligations.CandidateUpperAndJumpResults := by
  unfold Obligations.CandidateUpperAndJumpResults
  intro s rd hd
  exact ⟨fun imm => ⟨exec_candidateU hd rfl (by decide), exec_candidateU hd rfl (by decide)⟩,
    fun imm => exec_candidateJ hd rfl (by decide)⟩

/-- Settles O38: rows 4 to 9, by funct3. -/
theorem candidateBranchResults : Obligations.CandidateBranchResults := by
  unfold Obligations.CandidateBranchResults
  intro s rs1 rs2 imm hd out
  and_intros <;> exact exec_candidateB hd rfl (by decide)

/-- Settles O39: rows 3 and 10 to 14, by opcode and funct3. -/
theorem candidateLoadResults : Obligations.CandidateLoadResults := by
  unfold Obligations.CandidateLoadResults
  intro s rd rs1 imm hd out
  and_intros <;> exact exec_candidateI (sub := none) hd rfl (by decide) nofun

/-- Settles O40: rows 15 to 17, by funct3. -/
theorem candidateStoreResults : Obligations.CandidateStoreResults := by
  unfold Obligations.CandidateStoreResults
  intro s rs1 rs2 imm hd out
  and_intros <;> exact exec_candidateS hd rfl (by decide)

/-- Settles O41: rows 18 to 23 by funct3, rows 24 to 26 by funct3 and the shift mode. -/
theorem candidateImmediateArithmeticResults : Obligations.CandidateImmediateArithmeticResults := by
  unfold Obligations.CandidateImmediateArithmeticResults
  intro s rd rs1 hd
  constructor
  · intro imm out
    and_intros <;> exact exec_candidateI (sub := none) hd rfl (by decide) nofun
  · intro shamt out
    and_intros <;> exact exec_candidateR (kind := .shiftMode) hd rfl (by decide)

/-- Settles O42: rows 27 to 36, by funct3 and funct7. -/
theorem candidateRegisterArithmeticResults : Obligations.CandidateRegisterArithmeticResults := by
  unfold Obligations.CandidateRegisterArithmeticResults
  intro s rd rs1 rs2 hd out
  and_intros <;> exact exec_candidateR (kind := .funct7) hd rfl (by decide)

/-- Settles O43: rows 37 to 44, by funct3 and funct7. -/
theorem candidateMultiplyDivideResults : Obligations.CandidateMultiplyDivideResults := by
  unfold Obligations.CandidateMultiplyDivideResults
  intro s rd rs1 rs2 hd out
  and_intros <;> exact exec_candidateR (kind := .funct7) hd rfl (by decide)

/-- Settles O44: rows 45 and 46 by the fence mode, rows 47 and 48 by the sub-code. -/
theorem candidateFenceAndCallResults : Obligations.CandidateFenceAndCallResults := by
  unfold Obligations.CandidateFenceAndCallResults
  intro s rd rs1 hd
  refine ⟨?_, exec_candidateCall (imm := 0#12) hd rfl (by decide),
    exec_candidateCall (imm := 1#12) hd rfl (by decide)⟩
  intro pred succ out
  exact ⟨exec_candidateFence hd rfl (by decide), exec_candidateFence hd rfl (by decide)⟩

/-- Settles O45: rows 49 to 54, by funct3; the low 12 bits of a sign extension are its argument. -/
theorem candidateCsrResults : Obligations.CandidateCsrResults := by
  unfold Obligations.CandidateCsrResults
  intro s rd src csr hd out
  refine ⟨?_, ?_, ?_, ?_, ?_, ?_, extractLsb'_signExtend_self (by decide) csr⟩ <;>
    exact exec_candidateI (sub := none) hd rfl (by decide) nofun

end Sys2Proof.Machine

/-!
PROOFS. The exceptions family (spec/60_exceptions.md): which evaluations report a fault or a decode error, and
what the caller's duties buy.
-/

namespace Sys2Proof.Machine

/-! ### Which operations report an error -/

/-- R212: an evaluation that answers outputs reports no fault beside them. -/
theorem fault_of_evaluation_ok (d : Dispatch) {i : Inputs} {o : Outputs} (h : evaluation d.rows i = .ok o) :
    o.fault = 0#3 := by
  obtain ⟨w, rfl⟩ | ⟨f, m, p, rfl⟩ | ⟨e, rfl⟩ := evaluation_ok_cases d h
  · rfl
  · cases f <;> rfl
  · rfl

section
variable {op : BitVec 4}

/-- R215: only DECODE drives the decode-error outputs. -/
theorem derrKind_drivenOutputs (h : op ≠ 0b1110#4) (o : Outputs) : (drivenOutputs op o).derrKind = 0#3 := by
  obtain ⟨f, rfl⟩ | ⟨f, rfl⟩ | hdecode | hreserved := op_cases op
  · cases f <;> rfl
  · cases f <;> rfl
  · exact absurd hdecode h
  · obtain rfl | rfl | rfl := reservedOp_iff.mp hreserved <;> rfl

/-- R60, R61: the `op` value of a format decoder is the one that its format gives. -/
theorem eq_decodeSelect_of_decodeFormat {f : Fmt} (h : decodeFormat op = some f) : op = decodeSelect f := by
  unfold decodeFormat at h
  split at h <;> cases h <;> exact BitVec.eq_of_toNat_eq ‹_›

end

/-! ### The statements -/

/-- Settles O14: an evaluation is the fault of a reserved `op` or drives what its operation drives. -/
theorem onlyReservedOpsFault : Obligations.OnlyReservedOpsFault := by
  unfold Obligations.OnlyReservedOpsFault
  intro s
  refine ⟨step_reserved, fun hop => ?_⟩
  obtain ⟨hreserved, -⟩ | ⟨o, ho, hdriven⟩ := evaluation_cases s.dispatch s.inp
  · cases hop.symm.trans hreserved
  · refine ⟨s.drive o, ?_, ?_, fun hkind => ?_⟩
    · rw [step_eq_finish_evaluation, ho, finish_ok]
    · exact fault_of_evaluation_ok s.dispatch ho
    · by_contra hdecode
      rw [State.drive_out, ← hdriven] at hkind
      exact hkind (derrKind_drivenOutputs hdecode o)

/-- Settles O35: the row that classifies the word is the one that DECODE selects, and both drive the fields of
its format. -/
theorem classifiedWordsDecodeAlike : Obligations.ClassifiedWordsDecodeAlike := by
  unfold Obligations.ClassifiedWordsDecodeAlike
  rintro s f ⟨-, -, hclassified⟩ hf
  obtain ⟨row, hrow, rfl, hmatch⟩ := hclassified f hf
  refine ⟨_, _, step_decoder (eq_decodeSelect_of_decodeFormat hf),
    recognise_of_matchesWord (s := s.present { s.inp with op := 0b1110#4 }) hrow hmatch, ?_⟩
  cases row.fmt <;> exact ⟨rfl, rfl, rfl⟩

end Sys2Proof.Machine

/-!
PROOFS. The decoder and the encoder of Decode.lean as inverses (spec/30_encoding.md): `op` values, packed words and
their bytes, and so what a step under DECODE runs.
-/

namespace Sys2Proof

open Machine

/-! ### Operations and their `op` values -/

/-- R60: the assignment in both directions. -/
theorem decodeOp_eq_iff {op : BitVec 4} {i : Instr} : decodeOp op = i ↔ encodeOp i = some op := by
  constructor
  · rintro rfl
    have hall : ∀ op : BitVec 4, encodeOp (decodeOp op) = some op := by decide
    exact hall op
  · intro h
    cases i <;> cases h <;> rfl

theorem wellFormed_decodeOp (op : BitVec 4) : (decodeOp op).wellFormed = true := by
  have hall : ∀ op : BitVec 4, (decodeOp op).wellFormed = true := by decide
  exact hall op

/-! ### The fields of a packed word -/

/-- A sign extension to the bus determines the immediate. -/
theorem signExtend_word_inj {k : Nat} (hk : k ≤ 32) {x y : BitVec k}
    (h : x.signExtend 32 = (y.signExtend 32 : Word)) : x = y := by
  rw [← extractLsb'_signExtend_self hk x, h, extractLsb'_signExtend_self hk y]

section
variable (opcode : BitVec 7) (funct3 : BitVec 3) (rd rs1 rs2 : Reg)

@[simp] theorem fields_packR (funct7 : BitVec 7) :
    let w := packR opcode funct3 funct7 rd rs1 rs2
    wordOpcode w = opcode ∧ wordRd w = rd ∧ wordFunct3 w = funct3 ∧ wordRs1 w = rs1 ∧ wordRs2 w = rs2
      ∧ wordFunct7 w = funct7 := by
  have h := decodedFields_packR opcode funct3 rd rs1 rs2 funct7
  exact ⟨congrArg Outputs.opcode h, congrArg Outputs.rd h, congrArg Outputs.funct3 h, congrArg Outputs.rs1 h,
    congrArg Outputs.rs2 h, congrArg Outputs.funct7 h⟩

@[simp] theorem fields_packI (imm : BitVec 12) :
    let w := packI opcode funct3 rd rs1 imm
    wordOpcode w = opcode ∧ wordRd w = rd ∧ wordFunct3 w = funct3 ∧ wordRs1 w = rs1 ∧ wordImmI w = imm := by
  have h := decodedFields_packI opcode funct3 rd rs1 imm
  exact ⟨congrArg Outputs.opcode h, congrArg Outputs.rd h, congrArg Outputs.funct3 h, congrArg Outputs.rs1 h,
    signExtend_word_inj (by decide) (congrArg Outputs.imm h)⟩

@[simp] theorem fields_packS (imm : BitVec 12) :
    let w := packS opcode funct3 rs1 rs2 imm
    wordOpcode w = opcode ∧ wordFunct3 w = funct3 ∧ wordRs1 w = rs1 ∧ wordRs2 w = rs2 ∧ wordImmS w = imm := by
  have h := decodedFields_packS opcode funct3 rs1 rs2 imm
  exact ⟨congrArg Outputs.opcode h, congrArg Outputs.funct3 h, congrArg Outputs.rs1 h, congrArg Outputs.rs2 h,
    signExtend_word_inj (by decide) (congrArg Outputs.imm h)⟩

@[simp] theorem fields_packB (imm : BitVec 13) :
    let w := packB opcode funct3 rs1 rs2 imm
    wordOpcode w = opcode ∧ wordFunct3 w = funct3 ∧ wordRs1 w = rs1 ∧ wordRs2 w = rs2
      ∧ wordImmB w = imm.extractLsb' 1 12 ++ 0#1 := by
  have h := decodedFields_packB opcode funct3 rs1 rs2 imm
  exact ⟨congrArg Outputs.opcode h, congrArg Outputs.funct3 h, congrArg Outputs.rs1 h, congrArg Outputs.rs2 h,
    signExtend_word_inj (by decide) (congrArg Outputs.imm h)⟩

@[simp] theorem fields_packU (imm : Word) :
    let w := packU opcode rd imm
    wordOpcode w = opcode ∧ wordRd w = rd ∧ wordImmU w = imm.extractLsb' 12 20 ++ 0#12 := by
  have h := decodedFields_packU opcode rd imm
  exact ⟨congrArg Outputs.opcode h, congrArg Outputs.rd h, congrArg Outputs.imm h⟩

@[simp] theorem fields_packJ (imm : BitVec 21) :
    let w := packJ opcode rd imm
    wordOpcode w = opcode ∧ wordRd w = rd ∧ wordImmJ w = imm.extractLsb' 1 20 ++ 0#1 := by
  have h := decodedFields_packJ opcode rd imm
  exact ⟨congrArg Outputs.opcode h, congrArg Outputs.rd h,
    signExtend_word_inj (by decide) (congrArg Outputs.imm h)⟩

end

/-! ### The parts of a fence word's immediate -/

/-- R73: a slice of the I immediate is the word's slice 20 bits higher. -/
theorem extractLsb'_wordImmI (w : Word) {a k : Nat} (h : a + k ≤ 12) :
    (wordImmI w).extractLsb' a k = w.extractLsb' (20 + a) k := by
  apply BitVec.eq_of_getLsbD_eq
  intro j hj
  simp only [wordImmI, BitVec.getLsbD_extractLsb']
  simp [hj, show a + j < 12 by omega, Nat.add_assoc]

@[simp] theorem fence_fields_packI (opcode : BitVec 7) (funct3 : BitVec 3) (rd rs1 : Reg)
    (fm pred succ : BitVec 4) :
    let w := packI opcode funct3 rd rs1 (fm ++ pred ++ succ)
    w.extractLsb' 28 4 = fm ∧ w.extractLsb' 24 4 = pred ∧ w.extractLsb' 20 4 = succ := by
  intro w
  have himm : wordImmI w = fm ++ pred ++ succ := by simp [w]
  rw [← extractLsb'_wordImmI w (a := 8) (by decide), ← extractLsb'_wordImmI w (a := 4) (by decide),
    ← extractLsb'_wordImmI w (a := 0) (by decide), himm]
  simp -index (disch := decide) only [BitVec.extractLsb'_append_eq_of_le,
    BitVec.extractLsb'_append_eq_of_add_le, BitVec.extractLsb'_eq_self, and_self]

/-- Log 10: the fence mode and the two masks make the I immediate. -/
theorem append_fence_fields (w : Word) :
    w.extractLsb' 28 4 ++ w.extractLsb' 24 4 ++ w.extractLsb' 20 4 = wordImmI w := by
  unfold wordImmI
  simp -index (disch := decide) only [BitVec.extractLsb'_append_extractLsb'_eq_extractLsb']

/-! ### Immediates that their formats store whole -/

/-- R105, R107: an even displacement is its other bits over a 0. -/
theorem append_zero_of_evenImm {k : Nat} {imm : BitVec (k + 1)} (h : evenImm imm = true) :
    imm.extractLsb' 1 k ++ 0#1 = imm := by
  rw [evenImm, Bool.not_eq_true'] at h
  apply BitVec.eq_of_getLsbD_eq
  intro j _
  rw [getLsbD_append_zero]
  cases j with
  | zero => simpa using h
  | succ j => simp

/-- R108: an upper immediate is its high 20 bits over twelve zeros. -/
theorem append_zeros_of_upperImm {imm : Word} (h : upperImm imm = true) :
    imm.extractLsb' 12 20 ++ 0#12 = imm :=
  extractLsb'_append_zeros (beq_iff_eq.mp h)

/-! ### The decoder reads what the encoder packs -/

/-- 30_encoding.md section 6: the word of a well-formed mnemonic decodes to it. -/
theorem decodeWord_of_encodeWord {i : Instr} {w : Word} (hwf : i.wellFormed = true) (h : encodeWord i = some w) :
    decodeWord w = .ok i := by
  cases i with
  | lui | auipc =>
    cases h
    simp [decodeWord, append_zeros_of_upperImm hwf]
  | jal =>
    cases h
    simp [decodeWord, append_zero_of_evenImm hwf]
  | beq | bne | blt | bge | bltu | bgeu =>
    cases h
    simp [decodeWord, decodeBranch, append_zero_of_evenImm hwf]
  | lb | lh | lw | lbu | lhu =>
    cases h
    simp [decodeWord, decodeLoad]
  | sb | sh | sw =>
    cases h
    simp [decodeWord, decodeStore]
  | addi | slti | sltiu | xori | ori | andi | slli | srli | srai =>
    cases h
    simp [decodeWord, decodeOpImm]
  | add | sub | sll | slt | sltu | xor | srl | sra | or | and | mul | mulh | mulhsu | mulhu | div | divu | rem
  | remu =>
    cases h
    simp [decodeWord, decodeOpReg]
  | fence | fenceTso =>
    cases h
    simp [decodeWord, decodeFence]
  | jalr =>
    cases h
    simp [decodeWord]
  | ecall | ebreak | csrrw | csrrs | csrrc | csrrwi | csrrsi | csrrci =>
    cases h
    simp [decodeWord, decodeSystem]
  | _ => cases h

/-! ### The encoder packs what the decoder reads -/

/-- A well-formed instruction and its word. -/
def Instr.HasWord (i : Instr) (w : Word) : Prop := i.wellFormed = true ∧ encodeWord i = some w

section
variable {w : Word} {opcode : BitVec 7} {funct3 : BitVec 3} {funct7 : BitVec 7}

/-! The decoder compares fields as numbers, and so do these hypotheses. -/

theorem packR_eq_of_toNat (hop : (wordOpcode w).toNat = opcode.toNat) (hf3 : (wordFunct3 w).toNat = funct3.toNat)
    (hf7 : (wordFunct7 w).toNat = funct7.toNat) :
    some (packR opcode funct3 funct7 (wordRd w) (wordRs1 w) (wordRs2 w)) = some w := by
  rw [← BitVec.eq_of_toNat_eq hop, ← BitVec.eq_of_toNat_eq hf3, ← BitVec.eq_of_toNat_eq hf7, packR_fields]

theorem packI_eq_of_toNat (hop : (wordOpcode w).toNat = opcode.toNat) (hf3 : (wordFunct3 w).toNat = funct3.toNat) :
    some (packI opcode funct3 (wordRd w) (wordRs1 w) (wordImmI w)) = some w := by
  rw [← BitVec.eq_of_toNat_eq hop, ← BitVec.eq_of_toNat_eq hf3, packI_fields]

theorem packS_eq_of_toNat (hop : (wordOpcode w).toNat = opcode.toNat) (hf3 : (wordFunct3 w).toNat = funct3.toNat) :
    some (packS opcode funct3 (wordRs1 w) (wordRs2 w) (wordImmS w)) = some w := by
  rw [← BitVec.eq_of_toNat_eq hop, ← BitVec.eq_of_toNat_eq hf3, packS_fields]

theorem packB_eq_of_toNat (hop : (wordOpcode w).toNat = opcode.toNat) (hf3 : (wordFunct3 w).toNat = funct3.toNat) :
    some (packB opcode funct3 (wordRs1 w) (wordRs2 w) (wordImmB w)) = some w := by
  rw [← BitVec.eq_of_toNat_eq hop, ← BitVec.eq_of_toNat_eq hf3, packB_fields]

theorem packU_eq_of_toNat (hop : (wordOpcode w).toNat = opcode.toNat) :
    some (packU opcode (wordRd w) (wordImmU w)) = some w := by
  rw [← BitVec.eq_of_toNat_eq hop, packU_fields]

theorem packJ_eq_of_toNat (hop : (wordOpcode w).toNat = opcode.toNat) :
    some (packJ opcode (wordRd w) (wordImmJ w)) = some w := by
  rw [← BitVec.eq_of_toNat_eq hop, packJ_fields]

end

theorem evenImm_append_zero {k : Nat} (x : BitVec k) : evenImm (x ++ 0#1) = true := by
  rw [evenImm, BitVec.getLsbD_append]
  rfl

theorem upperImm_append_zeros (x : BitVec 20) : upperImm (x ++ 0#12) = true := by
  rw [upperImm, BitVec.extractLsb'_append_eq_of_add_le (by decide), BitVec.extractLsb'_eq_self]
  rfl

section
variable (w : Word)

theorem evenImm_wordImmB : evenImm (wordImmB w) = true := evenImm_append_zero _

theorem evenImm_wordImmJ : evenImm (wordImmJ w) = true := evenImm_append_zero _

theorem upperImm_wordImmU : upperImm (wordImmU w) = true := upperImm_append_zeros _

end

/-- A funct3 that is none of the lower seven values is the highest. -/
theorem funct3_eq_seven {f : BitVec 3} (h0 : f.toNat ≠ 0) (h1 : f.toNat ≠ 1) (h2 : f.toNat ≠ 2)
    (h3 : f.toNat ≠ 3) (h4 : f.toNat ≠ 4) (h5 : f.toNat ≠ 5) (h6 : f.toNat ≠ 6) : f.toNat = 7 := by
  have hlt := f.isLt
  omega

section
variable {w : Word} {i : Instr}

theorem hasWord_of_decodeBranch (hop : (wordOpcode w).toNat = 0b1100011) (h : decodeBranch w = .ok i) :
    i.HasWord w := by
  unfold decodeBranch at h
  split at h <;> cases h
  all_goals exact ⟨evenImm_wordImmB w, packB_eq_of_toNat hop ‹_›⟩

theorem hasWord_of_decodeLoad (hop : (wordOpcode w).toNat = 0b0000011) (h : decodeLoad w = .ok i) :
    i.HasWord w := by
  unfold decodeLoad at h
  split at h <;> cases h
  all_goals exact ⟨rfl, packI_eq_of_toNat hop ‹_›⟩

theorem hasWord_of_decodeStore (hop : (wordOpcode w).toNat = 0b0100011) (h : decodeStore w = .ok i) :
    i.HasWord w := by
  unfold decodeStore at h
  split at h <;> cases h
  all_goals exact ⟨rfl, packS_eq_of_toNat hop ‹_›⟩

theorem hasWord_of_decodeOpImm (hop : (wordOpcode w).toNat = 0b0010011) (h : decodeOpImm w = .ok i) :
    i.HasWord w := by
  unfold decodeOpImm at h
  split at h
  case h_2 | h_6 => -- the shifts
    split at h <;> cases h
    all_goals exact ⟨rfl, packR_eq_of_toNat hop ‹_› ‹_›⟩
  case h_8 => -- `andi`, the last value of funct3
    cases h
    exact ⟨rfl, packI_eq_of_toNat hop (funct3_eq_seven ‹_› ‹_› ‹_› ‹_› ‹_› ‹_› ‹_›)⟩
  all_goals
    cases h
    exact ⟨rfl, packI_eq_of_toNat hop ‹_›⟩

theorem hasWord_of_decodeOpReg (hop : (wordOpcode w).toNat = 0b0110011) (h : decodeOpReg w = .ok i) :
    i.HasWord w := by
  unfold decodeOpReg at h
  split at h
  case h_1 | h_3 =>
    split at h <;> cases h
    case h_8.refl => -- `and` and `remu`, the last value of funct3
      exact ⟨rfl, packR_eq_of_toNat hop (funct3_eq_seven ‹_› ‹_› ‹_› ‹_› ‹_› ‹_› ‹_›) ‹_›⟩
    all_goals exact ⟨rfl, packR_eq_of_toNat hop ‹_› ‹_›⟩
  case h_2 =>
    split at h <;> cases h
    all_goals exact ⟨rfl, packR_eq_of_toNat hop ‹_› ‹_›⟩
  case h_4 => cases h

theorem hasWord_of_decodeFence (hop : (wordOpcode w).toNat = 0b0001111) (h : decodeFence w = .ok i) :
    i.HasWord w := by
  unfold decodeFence at h
  split at h
  case h_2 => cases h
  next hf3 =>
  have hword := packI_eq_of_toNat (opcode := 0b0001111#7) (funct3 := 0b000#3) hop hf3
  rw [← append_fence_fields] at hword
  split at h
  next hfm =>
    cases h
    rw [BitVec.eq_of_toNat_eq (y := 0b0000#4) hfm] at hword
    exact ⟨rfl, hword⟩
  next hfm =>
    cases h
    rw [BitVec.eq_of_toNat_eq (y := 0b1000#4) hfm] at hword
    exact ⟨rfl, hword⟩
  next => cases h

theorem hasWord_of_decodeSystem (hop : (wordOpcode w).toNat = 0b1110011) (h : decodeSystem w = .ok i) :
    i.HasWord w := by
  unfold decodeSystem at h
  split at h
  case h_1 hf3 =>
    have hword := packI_eq_of_toNat (opcode := 0b1110011#7) (funct3 := 0b000#3) hop hf3
    split at h
    next himm =>
      cases h
      rw [BitVec.eq_of_toNat_eq (y := 0#12) himm] at hword
      exact ⟨rfl, hword⟩
    next himm =>
      cases h
      rw [BitVec.eq_of_toNat_eq (y := 1#12) himm] at hword
      exact ⟨rfl, hword⟩
    next => cases h
  case h_8 => cases h
  all_goals
    cases h
    exact ⟨rfl, packI_eq_of_toNat hop ‹_›⟩

/-- 30_encoding.md section 6: a word that decodes is the word of the well-formed mnemonic it decodes to. -/
theorem hasWord_of_decodeWord (h : decodeWord w = .ok i) : i.HasWord w := by
  unfold decodeWord at h
  split at h
  case h_1 | h_2 =>
    cases h
    exact ⟨upperImm_wordImmU w, packU_eq_of_toNat ‹_›⟩
  case h_3 =>
    cases h
    exact ⟨evenImm_wordImmJ w, packJ_eq_of_toNat ‹_›⟩
  case h_4 =>
    split at h <;> cases h
    exact ⟨rfl, packI_eq_of_toNat ‹_› ‹_›⟩
  case h_5 hop => exact hasWord_of_decodeBranch hop h
  case h_6 hop => exact hasWord_of_decodeLoad hop h
  case h_7 hop => exact hasWord_of_decodeStore hop h
  case h_8 hop => exact hasWord_of_decodeOpImm hop h
  case h_9 hop => exact hasWord_of_decodeOpReg hop h
  case h_10 hop => exact hasWord_of_decodeFence hop h
  case h_11 hop => exact hasWord_of_decodeSystem hop h
  case h_12 => cases h

end

/-! ### Bytes -/

theorem bytesOfWord_wordOfBytes (b0 b1 b2 b3 : Byte) :
    bytesOfWord (wordOfBytes b0 b1 b2 b3) = [b0, b1, b2, b3] := by
  unfold bytesOfWord wordOfBytes
  simp -index (disch := decide) only [BitVec.extractLsb'_append_eq_of_le,
    BitVec.extractLsb'_append_eq_of_add_le, BitVec.extractLsb'_eq_self]

theorem decode_bytesOfWord (w : Word) : decode (bytesOfWord w) = decodeWord w :=
  congrArg decodeWord (wordOfBytes_extractLsb' w)

/-- R60: an `op` byte has its upper four bits 0. -/
theorem decode_byte_eq_ok_iff {b : Byte} {i : Instr} :
    decode [b] = .ok i ↔ ∃ op : BitVec 4, b = 0#4 ++ op ∧ decodeOp op = i := by
  have hsplit : b.extractLsb' 4 4 ++ b.extractLsb' 0 4 = b := by
    rw [BitVec.extractLsb'_append_extractLsb'_eq_extractLsb' (show 4 = 0 + 4 from rfl)]
    exact BitVec.extractLsb'_eq_self
  rw [decode]
  constructor
  · intro h
    split_ifs at h with hhigh
    rw [hhigh] at hsplit
    exact ⟨_, hsplit.symm, Except.ok.inj h⟩
  · rintro ⟨op, rfl, rfl⟩
    simp -index (disch := decide) only [BitVec.extractLsb'_append_eq_of_le,
      BitVec.extractLsb'_append_eq_of_add_le, BitVec.extractLsb'_eq_self, if_true]

/-- R60, R64: bytes that decode are one `op` byte or the four bytes of a word. -/
theorem decode_eq_ok_cases {bs : List Byte} {i : Instr} (h : decode bs = .ok i) :
    (∃ op : BitVec 4, bs = [0#4 ++ op] ∧ decodeOp op = i) ∨ ∃ w, bs = bytesOfWord w ∧ decodeWord w = .ok i := by
  match bs, h with
  | [b], h =>
    obtain ⟨op, rfl, hop⟩ := decode_byte_eq_ok_iff.mp h
    exact .inl ⟨op, rfl, hop⟩
  | [b0, b1, b2, b3], h => exact .inr ⟨_, (bytesOfWord_wordOfBytes b0 b1 b2 b3).symm, h⟩

section
variable {i : Instr}

theorem encode_of_encodeOp {op : BitVec 4} (h : encodeOp i = some op) : encode i = some [0#4 ++ op] := by
  rw [encode, h]

/-- R60, R64: no instruction has both an `op` value and a word. -/
theorem encodeOp_of_encodeWord {w : Word} (h : encodeWord i = some w) : encodeOp i = none := by
  cases i with
  | encR | encI | encS | encB | encU | encJ | decR | decI | decS | decB | decU | decJ | decode
  | reserved0110 | reserved0111 | reserved1111 => cases h
  | _ => rfl

theorem encode_of_encodeWord {w : Word} (h : encodeWord i = some w) : encode i = some (bytesOfWord w) := by
  rw [encode, encodeOp_of_encodeWord h, h]
  rfl

end

/-! ### The statements of the decoder and the encoder -/

/-- Settles O5: the byte of an `op` value decodes by the assignment, the bytes of a word by its packed fields. -/
theorem decodeOfEncode : Obligations.DecodeOfEncode := by
  unfold Obligations.DecodeOfEncode
  intro i bs hwf h
  obtain ⟨op, hop⟩ | ⟨w, hword⟩ | ⟨specs, rfl⟩ | ⟨w, r, rfl⟩ | ⟨k, v, rfl⟩ := instr_cases i
  · obtain rfl := Option.some.inj ((encode_of_encodeOp hop).symm.trans h)
    exact decode_byte_eq_ok_iff.mpr ⟨op, rfl, decodeOp_eq_iff.mpr hop⟩
  · obtain rfl := Option.some.inj ((encode_of_encodeWord hword).symm.trans h)
    rw [decode_bytesOfWord, decodeWord_of_encodeWord hwf hword]
  · cases h
  · cases h
  · cases h

/-- Settles O6: an `op` byte and the bytes of a word are each the encoding of what they decode to. -/
theorem encodeOfDecode : Obligations.EncodeOfDecode := by
  unfold Obligations.EncodeOfDecode
  intro bs i h
  obtain ⟨op, rfl, hop⟩ | ⟨w, rfl, hword⟩ := decode_eq_ok_cases h
  · exact ⟨hop ▸ wellFormed_decodeOp op, encode_of_encodeOp (decodeOp_eq_iff.mp hop)⟩
  · obtain ⟨hwf, hencode⟩ := hasWord_of_decodeWord hword
    exact ⟨hwf, encode_of_encodeWord hencode⟩

/-- Settles O4: each byte is an operation's and each word the packed word of the instruction beside it. -/
theorem sampleWordsDecode : Obligations.SampleWordsDecode := by
  unfold Obligations.SampleWordsDecode
  refine ⟨decode_byte_eq_ok_iff.mpr ⟨0b1101#4, rfl, rfl⟩, decode_byte_eq_ok_iff.mpr ⟨0b0101#4, rfl, rfl⟩, ?_⟩
  and_intros <;> exact decodeWord_of_encodeWord rfl rfl

end Sys2Proof

namespace Sys2Proof.Machine

/-! ### What a step under DECODE runs -/

/-- R195: DECODE is the recognition of the selected word. -/
theorem exec_decode (s : State) : exec .decode s = recognise s.inp.selected s := rfl

/-- Log 11: under DECODE a step means what the instruction of the selected word means. -/
theorem step_eq_exec_of_decodeWord {s : State} {i : Instr} (hop : s.inp.op = 0b1110#4)
    (h : decodeWord s.inp.selected = .ok i) : step s = exec i s := by
  obtain ⟨-, hword⟩ := hasWord_of_decodeWord h
  calc step s = exec .decode s := step_of_op hop
    _ = recognise s.inp.selected s := exec_decode s
    _ = exec i s := (exec_of_encodeWord hword s).symm

/-- Settles O2: the selected word is that of its bytes. -/
theorem stepRunsTheRecognisedWord : Obligations.StepRunsTheRecognisedWord := by
  unfold Obligations.StepRunsTheRecognisedWord
  intro s i hop h
  rw [decode_bytesOfWord] at h
  exact step_eq_exec_of_decodeWord hop h

/-- A table word has the meaning that its bytes decode to. -/
theorem decode_tableBytes {nbits w : Nat} {i : Instr} (h : decodeTableWord nbits w = some i) :
    decode (tableBytes nbits w) = .ok i := by
  rw [decodeTableWord] at h
  split_ifs at h
  cases hdecode : decode (tableBytes nbits w) with
  | ok j =>
    rw [hdecode] at h
    exact congrArg Except.ok (Option.some.inj h)
  | error e =>
    rw [hdecode] at h
    cases h

/-- R60: a number below 16 is the byte of its `op` value. -/
theorem ofNat_eq_op_byte {w : Nat} (h : w < 16) : BitVec.ofNat 8 w = 0#4 ++ BitVec.ofNat 4 w := by
  have hall : ∀ w < 16, BitVec.ofNat 8 w = 0#4 ++ BitVec.ofNat 4 w := by decide
  exact hall w h

section
variable (s : State) {nbits w : Nat}

/-- Log 7: an `op` value is presented on `op`. -/
theorem withFetchWord_of_op (h : nbits ≤ 8 ∧ w < 16) :
    s.withFetchWord nbits w = s.present { s.inp with op := BitVec.ofNat 4 w } := by
  rw [State.withFetchWord, Inputs.present, if_pos h]
  rfl

/-- Log 7: an instruction word is presented on `in_word` under DECODE. -/
theorem withFetchWord_of_word (h : ¬ (nbits ≤ 8 ∧ w < 16)) :
    s.withFetchWord nbits w
      = s.present { s.inp with op := 0b1110#4, word := BitVec.ofNat 32 w, bytesSel := 0#1 } := by
  rw [State.withFetchWord, Inputs.present, if_neg h]
  rfl

end

/-- Settles O3: a presented `op` value is selected by the assignment, a presented word is recognised by DECODE. -/
theorem stepRunsThePresentedTableWord : Obligations.StepRunsThePresentedTableWord := by
  unfold Obligations.StepRunsThePresentedTableWord
  intro s nbits w i h
  have hdecode := decode_tableBytes h
  by_cases hsmall : nbits ≤ 8 ∧ w < 16
  · rw [tableBytes, if_pos hsmall, ofNat_eq_op_byte hsmall.2,
      decode_byte_eq_ok_iff.mpr ⟨BitVec.ofNat 4 w, rfl, rfl⟩] at hdecode
    rw [withFetchWord_of_op s hsmall, ← Except.ok.inj hdecode]
    exact step_of_op rfl
  · rw [tableBytes, if_neg hsmall, decode_bytesOfWord] at hdecode
    rw [withFetchWord_of_word s hsmall]
    refine step_eq_exec_of_decodeWord rfl ?_
    rwa [selected_of_bytesSel_zero rfl]

/-- R195, R196: the recognition of a word is one result, driven into whichever state asks for it. -/
theorem recognise_next (d : Dispatch) (w : Word) :
    ∃ o, ∀ s : State, s.dispatch = d → recognise w s = .next (s.drive o) := by
  have hok : ∃ o, decodeOutputs d.rows w = .ok o := by
    obtain ⟨e, he⟩ | ⟨row, o, ho⟩ := decodeOutputs_cases d w
    · exact ⟨_, he⟩
    · exact ⟨_, ho⟩
  obtain ⟨o, ho⟩ := hok
  refine ⟨o, fun s hd => ?_⟩
  rw [recognise, hd, ho, finish_ok]

/-- Settles O36: a mnemonic and DECODE of its word are the same recognition by the same `DISPATCH`. -/
theorem mnemonicsAreDecodedByTheBlock : Obligations.MnemonicsAreDecodedByTheBlock := by
  unfold Obligations.MnemonicsAreDecodedByTheBlock
  intro i w s h
  obtain ⟨o, ho⟩ := recognise_next s.dispatch w
  refine ⟨o, (exec_of_encodeWord h s).trans (ho s rfl), fun inp hsel => ?_⟩
  rw [exec_decode, hsel]
  exact ho _ rfl

end Sys2Proof.Machine

/-!
PROOFS. DECODE with the candidate against the decoder of Decode.lean (spec/30_encoding.md section 6): both
recognise the same words, and they reject the others for the same field.
-/

namespace Sys2Proof

namespace Row

/-- The row takes the opcode and the funct3 with these numbers. -/
def takes (row : Row) (opcode funct3 : Nat) : Bool :=
  row.opcode.toNat == opcode && row.funct3.all (·.toNat == funct3)

theorem inStage_iff_takes {row : Row} {w : Word} :
    row.InStage w ↔ row.takes (wordOpcode w).toNat (wordFunct3 w).toNat = true := by
  rw [InStage, takes, Bool.and_eq_true, beq_iff_eq, BitVec.toNat_inj]
  cases row.funct3 with
  | none => simp
  | some f => simp [BitVec.toNat_inj]

/-- The row's sub-field is of this kind and range and asks for one of these values. -/
def asks (row : Row) (kind : SubKind) (range : BitRange) (values : List Nat) : Bool :=
  row.sub.any fun sub => sub.kind == kind && sub.range == range && values.contains sub.value.toNat

end Row

/-- R191: a sub-field that holds in a word has the number of the word's slice as its value. -/
theorem SubField.toNat_value_of_holds {sub : SubField} {a k : Nat} {w : Word} (hk : k ≤ 12)
    (hrange : sub.range = Machine.rng a (a + k : Nat)) (h : sub.holds w = true) :
    sub.value.toNat = (w.extractLsb' a k).toNat := by
  obtain ⟨-, hfield⟩ := SubField.holds_iff.mp h
  rw [hrange, Machine.fieldOf_rng] at hfield
  have hnat := congrArg BitVec.toNat hfield
  rw [BitVec.toNat_setWidth_of_le (by omega), BitVec.toNat_setWidth_of_le (by decide)] at hnat
  exact hnat.symm

end Sys2Proof

namespace Sys2Proof.Machine

/-! ### Words that a row of the candidate matches -/

section
variable {w : Word} {opcode funct3 : Nat}

/-- Rows of formats U and J ask for the opcode alone. -/
theorem candidate_matches_opcode (hop : (wordOpcode w).toNat = opcode)
    (hrow : ∃ row ∈ candidateRows, row.opcode.toNat = opcode ∧ row.funct3 = none ∧ row.sub = none := by decide) :
    ∃ row ∈ candidateRows, row.matchesWord w = true := by
  obtain ⟨row, hmem, hrop, hrf3, hsub⟩ := hrow
  have hin : row.InStage w := ⟨BitVec.eq_of_toNat_eq (hrop.trans hop.symm), .inl hrf3⟩
  refine ⟨row, hmem, Row.matchesWord_iff.mpr ⟨hin, fun sub h => ?_⟩⟩
  cases hsub.symm.trans h

theorem candidate_matches_funct3 (hop : (wordOpcode w).toNat = opcode) (hf3 : (wordFunct3 w).toNat = funct3)
    (hrow : ∃ row ∈ candidateRows, row.takes opcode funct3 = true ∧ row.sub = none := by decide) :
    ∃ row ∈ candidateRows, row.matchesWord w = true := by
  obtain ⟨row, hmem, htakes, hsub⟩ := hrow
  rw [← hop, ← hf3, ← Row.inStage_iff_takes] at htakes
  refine ⟨row, hmem, Row.matchesWord_iff.mpr ⟨htakes, fun sub h => ?_⟩⟩
  cases hsub.symm.trans h

theorem candidate_matches_sub (kind : SubKind) (a : Nat) {k value : Nat} (hop : (wordOpcode w).toNat = opcode)
    (hf3 : (wordFunct3 w).toNat = funct3) (hvalue : (w.extractLsb' a k).toNat = value)
    (hrow : ∃ row ∈ candidateRows, row.takes opcode funct3 = true
      ∧ row.sub = some ⟨kind, rng a (a + k : Nat), (BitVec.ofNat k value).setWidth 12⟩ := by decide)
    (hk : k ≤ 12 := by decide) (hok : (rng a (a + k : Nat)).ok = true := by rfl) :
    ∃ row ∈ candidateRows, row.matchesWord w = true := by
  obtain ⟨row, hmem, htakes, hsub⟩ := hrow
  rw [← hop, ← hf3, ← Row.inStage_iff_takes] at htakes
  refine ⟨row, hmem, Row.matchesWord_iff.mpr ⟨htakes, fun sub h => ?_⟩⟩
  obtain rfl := Option.some.inj (h.symm.trans hsub)
  refine SubField.holds_of_slice hk hok ?_
  rw [← hvalue, BitVec.ofNat_toNat, BitVec.setWidth_eq]

/-! ### Words that the candidate rejects

Where the decoder falls through a match, each value it asked for is refuted by a hypothesis, and what the
candidate's rows ask for is finite: the defaults of these lemmas find the first and compute the second. -/

theorem candidate_rejects_opcode (values : List Nat)
    (hop : (wordOpcode w).toNat ∉ values := by
      simp only [List.mem_cons, List.not_mem_nil, or_false, not_or]
      and_intros <;> assumption)
    (hall : ∀ row ∈ candidateRows, row.opcode.toNat ∈ values := by decide) :
    Rejects candidateRows w ⟨.opcode, (wordOpcode w).setWidth 12⟩ :=
  .opcode fun row hrow hrop => hop (hrop ▸ hall row hrow)

theorem candidate_rejects_funct3 (values : List Nat) (hop : (wordOpcode w).toNat = opcode)
    (hf3 : (wordFunct3 w).toNat ∉ values := by
      simp only [List.mem_cons, List.not_mem_nil, or_false, not_or]
      and_intros <;> assumption)
    (hsome : ∃ row ∈ candidateRows, row.opcode.toNat = opcode := by decide)
    (hall : ∀ row ∈ candidateRows, row.opcode.toNat = opcode →
      (row.funct3.any fun f => values.contains f.toNat) = true := by decide) :
    Rejects candidateRows w ⟨.funct3, (wordFunct3 w).setWidth 12⟩ := by
  simp only [Option.any_eq_true, List.contains_iff_mem] at hall
  obtain ⟨row, hmem, hrop⟩ := hsome
  refine .funct3 hmem (BitVec.eq_of_toNat_eq (hrop.trans hop.symm)) fun r hr ⟨hrin, hrf3⟩ => ?_
  obtain ⟨f, hf, hlisted⟩ := hall r hr (hrin ▸ hop)
  rw [hf] at hrf3
  rw [Option.some.inj (hrf3.resolve_left nofun)] at hlisted
  exact hf3 hlisted

theorem candidate_rejects_sub (kind : SubKind) (a : Nat) {k : Nat} (values : List Nat)
    (hop : (wordOpcode w).toNat = opcode) (hf3 : (wordFunct3 w).toNat = funct3)
    (hvalue : (w.extractLsb' a k).toNat ∉ values := by
      simp only [List.mem_cons, List.not_mem_nil, or_false, not_or]
      and_intros <;> assumption)
    (hsome : ∃ row ∈ candidateRows, row.takes opcode funct3 = true := by decide)
    (hall : ∀ row ∈ candidateRows, row.takes opcode funct3 = true →
      row.asks kind (rng a (a + k : Nat)) values = true := by decide) (hk : k ≤ 12 := by decide) :
    Rejects candidateRows w ⟨.sub kind, (w.extractLsb' a k).setWidth 12⟩ := by
  simp only [← hop, ← hf3, ← Row.inStage_iff_takes, Row.asks, Option.any_eq_true, Bool.and_eq_true,
    beq_iff_eq, List.contains_iff_mem] at hsome hall
  obtain ⟨row, hmem, hin⟩ := hsome
  obtain ⟨sub, hsub, ⟨rfl, hrange⟩, -⟩ := hall row hmem hin
  have hbits : (fieldOf w sub.range).setWidth 12 = (w.extractLsb' a k).setWidth 12 := by
    rw [hrange, fieldOf_rng, BitVec.setWidth_setWidth_of_le _ (by decide)]
  rw [← hbits]
  refine .sub hmem hin hsub fun r hr => Bool.eq_false_iff.mpr fun hmatch => ?_
  obtain ⟨hrin, hrsub⟩ := Row.matchesWord_iff.mp hmatch
  obtain ⟨rsub, hrsome, ⟨-, hrrange⟩, hrvalue⟩ := hall r hr hrin
  rw [SubField.toNat_value_of_holds hk hrrange (hrsub rsub hrsome)] at hrvalue
  exact hvalue hrvalue

end

/-! ### The decoder's verdicts, opcode by opcode -/

/-- R197: the decode error that reports what the decoder rejects; none for what is no word. -/
def rejectError (w : Word) : DecodeReject → Option DecodeError
  | .length => none
  | .opSelect => none
  | .opcode => some ⟨.opcode, (wordOpcode w).setWidth 12⟩
  | .funct3 => some ⟨.funct3, (wordFunct3 w).setWidth 12⟩
  | .funct7 => some ⟨.sub .funct7, (wordFunct7 w).setWidth 12⟩
  | .shiftMode => some ⟨.sub .shiftMode, (wordFunct7 w).setWidth 12⟩
  | .fenceMode => some ⟨.sub .fenceMode, (w.extractLsb' 28 4).setWidth 12⟩
  | .funct12 => some ⟨.sub .funct12, (wordImmI w).setWidth 12⟩

/-- The candidate matches the word, or rejects it for the decoder's reason. -/
def CandidateAgrees (w : Word) : Except DecodeReject Instr → Prop
  | .ok _ => ∃ row ∈ candidateRows, row.matchesWord w = true
  | .error e => ∃ d, rejectError w e = some d ∧ Rejects candidateRows w d

section
variable {w : Word}

theorem candidateAgrees_decodeBranch (hop : (wordOpcode w).toNat = 0b1100011) :
    CandidateAgrees w (decodeBranch w) := by
  unfold decodeBranch
  split
  case h_7 => exact ⟨_, rfl, candidate_rejects_funct3 [0, 1, 4, 5, 6, 7] hop⟩
  all_goals exact candidate_matches_funct3 hop ‹_›

theorem candidateAgrees_decodeLoad (hop : (wordOpcode w).toNat = 0b0000011) :
    CandidateAgrees w (decodeLoad w) := by
  unfold decodeLoad
  split
  case h_6 => exact ⟨_, rfl, candidate_rejects_funct3 [0, 1, 2, 4, 5] hop⟩
  all_goals exact candidate_matches_funct3 hop ‹_›

theorem candidateAgrees_decodeStore (hop : (wordOpcode w).toNat = 0b0100011) :
    CandidateAgrees w (decodeStore w) := by
  unfold decodeStore
  split
  case h_4 => exact ⟨_, rfl, candidate_rejects_funct3 [0, 1, 2] hop⟩
  all_goals exact candidate_matches_funct3 hop ‹_›

theorem candidateAgrees_decodeOpImm (hop : (wordOpcode w).toNat = 0b0010011) :
    CandidateAgrees w (decodeOpImm w) := by
  unfold decodeOpImm
  split
  case h_2 hf3 =>
    split
    next hf7 => exact candidate_matches_sub .shiftMode 25 hop hf3 hf7
    next => exact ⟨_, rfl, candidate_rejects_sub .shiftMode 25 [0] hop hf3⟩
  case h_6 hf3 =>
    split
    next hf7 => exact candidate_matches_sub .shiftMode 25 hop hf3 hf7
    next hf7 => exact candidate_matches_sub .shiftMode 25 hop hf3 hf7
    next => exact ⟨_, rfl, candidate_rejects_sub .shiftMode 25 [0, 32] hop hf3⟩
  case h_8 => -- `andi`, the last value of funct3
    exact candidate_matches_funct3 hop (funct3_eq_seven ‹_› ‹_› ‹_› ‹_› ‹_› ‹_› ‹_›)
  all_goals exact candidate_matches_funct3 hop ‹_›

/-- The funct7 values of the register arithmetic: `sub` and `sra` are two funct3 values only. -/
def opRegFunct7s (funct3 : Nat) : List Nat := if funct3 = 0 ∨ funct3 = 5 then [0, 1, 32] else [0, 1]

theorem candidate_rejects_opReg (hop : (wordOpcode w).toNat = 0b0110011)
    (hf7 : (wordFunct7 w).toNat ∉ opRegFunct7s (wordFunct3 w).toNat) :
    Rejects candidateRows w ⟨.sub .funct7, (wordFunct7 w).setWidth 12⟩ := by
  have hsome : ∀ f < 8, ∃ row ∈ candidateRows, row.takes 0b0110011 f = true := by decide
  have hall : ∀ f < 8, ∀ row ∈ candidateRows, row.takes 0b0110011 f = true →
      row.asks .funct7 (rng 25 (25 + 7 : Nat)) (opRegFunct7s f) = true := by decide
  have hlt := (wordFunct3 w).isLt
  exact candidate_rejects_sub .funct7 25 _ hop rfl hf7 (hsome _ hlt) (hall _ hlt)

theorem candidateAgrees_decodeOpReg (hop : (wordOpcode w).toNat = 0b0110011) :
    CandidateAgrees w (decodeOpReg w) := by
  unfold decodeOpReg
  split
  case h_1 hf7 | h_3 hf7 =>
    split
    case h_8 => -- `and` and `remu`, the last value of funct3
      exact candidate_matches_sub .funct7 25 hop
        (funct3_eq_seven ‹_› ‹_› ‹_› ‹_› ‹_› ‹_› ‹_›) hf7
    all_goals exact candidate_matches_sub .funct7 25 hop ‹_› hf7
  case h_2 hf7 =>
    split
    case h_3 => exact ⟨_, rfl, candidate_rejects_opReg hop (by grind [opRegFunct7s])⟩
    all_goals exact candidate_matches_sub .funct7 25 hop ‹_› hf7
  case h_4 => exact ⟨_, rfl, candidate_rejects_opReg hop (by grind [opRegFunct7s])⟩

theorem candidateAgrees_decodeFence (hop : (wordOpcode w).toNat = 0b0001111) :
    CandidateAgrees w (decodeFence w) := by
  unfold decodeFence
  split
  next hf3 =>
    split
    next hfm => exact candidate_matches_sub .fenceMode 28 hop hf3 hfm
    next hfm => exact candidate_matches_sub .fenceMode 28 hop hf3 hfm
    next => exact ⟨_, rfl, candidate_rejects_sub .fenceMode 28 [0, 8] hop hf3⟩
  next => exact ⟨_, rfl, candidate_rejects_funct3 [0] hop⟩

theorem candidateAgrees_decodeSystem (hop : (wordOpcode w).toNat = 0b1110011) :
    CandidateAgrees w (decodeSystem w) := by
  unfold decodeSystem
  split
  case h_1 hf3 =>
    split
    next himm => exact candidate_matches_sub .funct12 20 hop hf3 himm
    next himm => exact candidate_matches_sub .funct12 20 hop hf3 himm
    next => exact ⟨_, rfl, candidate_rejects_sub .funct12 20 [0, 1] hop hf3⟩
  case h_8 => exact ⟨_, rfl, candidate_rejects_funct3 [0, 1, 2, 3, 5, 6, 7] hop⟩
  all_goals exact candidate_matches_funct3 hop ‹_›

theorem candidateAgrees_decodeWord : CandidateAgrees w (decodeWord w) := by
  unfold decodeWord
  split
  case h_1 | h_2 | h_3 => exact candidate_matches_opcode ‹_›
  case h_4 hop =>
    split
    next hf3 => exact candidate_matches_funct3 hop hf3
    next => exact ⟨_, rfl, candidate_rejects_funct3 [0] hop⟩
  case h_5 hop => exact candidateAgrees_decodeBranch hop
  case h_6 hop => exact candidateAgrees_decodeLoad hop
  case h_7 hop => exact candidateAgrees_decodeStore hop
  case h_8 hop => exact candidateAgrees_decodeOpImm hop
  case h_9 hop => exact candidateAgrees_decodeOpReg hop
  case h_10 hop => exact candidateAgrees_decodeFence hop
  case h_11 hop => exact candidateAgrees_decodeSystem hop
  case h_12 =>
    exact ⟨_, rfl, candidate_rejects_opcode [0b0110111, 0b0010111, 0b1101111, 0b1100111, 0b1100011, 0b0000011,
      0b0100011, 0b0010011, 0b0110011, 0b0001111, 0b1110011]⟩

end

/-- Settles O34: by the opcode's group of rows, a row matches the word or the stage that rejects it names the
decoder's field. -/
theorem candidateRejectsWhatTheDecoderRejects : Obligations.CandidateRejectsWhatTheDecoderRejects := by
  unfold Obligations.CandidateRejectsWhatTheDecoderRejects
  intro s hd w
  have hagrees : CandidateAgrees w (decodeWord w) := candidateAgrees_decodeWord
  have hrows : s.dispatch.rows = candidateRows := congrArg Dispatch.rows hd
  cases hdecode : decodeWord w with
  | ok i =>
    rw [hdecode] at hagrees
    obtain ⟨row, hrow, hmatch⟩ := hagrees
    refine ⟨_, recognise_of_matchesWord (hrows ▸ hrow) hmatch, ?_⟩
    cases row.fmt <;> rfl
  | error e =>
    rw [hdecode] at hagrees
    obtain ⟨d, herror, hrejects⟩ := hagrees
    refine ⟨_, recognise_of_rejects (hrows ▸ hrejects), ?_⟩
    cases e <;> cases herror <;> rfl

end Sys2Proof.Machine

/-!
PROOFS. The invariant (spec/10_state.md sections 1 and 5): every evaluation's outputs are CORE of its inputs, and
each of the three shapes of outputs is legal.
-/

namespace Sys2Proof.Machine

/-! ### The shapes of outputs are legal -/

/-- R61: a format code is at most 5. -/
theorem code_le_five (f : Fmt) : f.code ≤ 5#3 := by
  cases f <;> decide

/-- R212: outputs whose lanes are the word's, whose format code is some format's and that report nothing. -/
theorem outputsLegal_of_no_error {o : Outputs} (f : Fmt) (hlanes : o.LanesCarryWord) (hfmt : o.fmt = f.code)
    (hfault : o.fault = 0) (hkind : o.derrKind = 0) (hbits : o.derrBits = 0) : OutputsLegal o := by
  obtain ⟨h0, h1, h2, h3⟩ := hlanes
  refine ⟨h0, h1, h2, h3, hfault, hfmt ▸ code_le_five f, ?_, fun _ => hbits, fun h => absurd hkind h⟩
  rw [hkind]
  decide

/-- R41: an encoded word carries its lanes; the format code it does not drive is 0, that of R. -/
theorem wordOutputs_legal (w : Word) : OutputsLegal (wordOutputs w) :=
  outputsLegal_of_no_error .R (wordOutputs_lanes w) rfl rfl rfl rfl

/-- R61, R170: the fields of a format name that format. -/
theorem formatOutputs_legal (f : Fmt) (m : BitVec 8) (p : Outputs) : OutputsLegal (formatOutputs f m p) := by
  refine outputsLegal_of_no_error f (formatOutputs_lanes f m p) ?_ ?_ ?_ ?_ <;> cases f <;> rfl

/-- R197: the kind codes are 1 to 6. -/
theorem DerrKind.code_ne_seven (k : DerrKind) : k.code ≠ 7#3 := by
  cases k with
  | opcode => decide
  | funct3 => decide
  | sub k => cases k <;> decide

/-- R197: a decode error drives its kind and its bits and nothing else. -/
theorem decodeError_legal (e : DecodeError) : OutputsLegal e.outputs := by
  obtain ⟨h0, h1, h2, h3⟩ := decodeError_lanes e
  exact ⟨h0, h1, h2, h3, rfl, code_le_five .R, e.kind.code_ne_seven, fun h => absurd h e.kind.code_ne_zero,
    fun _ => rfl⟩

theorem evaluation_legal (d : Dispatch) {i : Inputs} {o : Outputs} (h : evaluation d.rows i = .ok o) :
    OutputsLegal o := by
  obtain ⟨w, rfl⟩ | ⟨f, m, p, rfl⟩ | ⟨e, rfl⟩ := evaluation_ok_cases d h
  · exact wordOutputs_legal w
  · exact formatOutputs_legal f m p
  · exact decodeError_legal e

/-! ### CORE of the inputs -/

/-- R20: CORE is the evaluation of the parameter and the inputs. -/
theorem coreOutputs_of_evaluation {d : Dispatch} {i : Inputs} {o : Outputs} (h : evaluation d.rows i = .ok o) :
    coreOutputs d i = some o := by
  rw [coreOutputs, step_eq_finish_evaluation, State.present_dispatch, State.powerUp_dispatch, State.present_inp,
    h, finish_ok, outputsOf, State.drive_out]

/-- R20, R36: a state that shows what its parameter and its inputs evaluate to satisfies the invariant. -/
theorem inv_of_evaluation {s : State} (h : evaluation s.dispatch.rows s.inp = .ok s.out) : Inv s :=
  ⟨coreOutputs_of_evaluation h, evaluation_legal s.dispatch h⟩

/-! ### The statements -/

/-- Settles O10: the outputs of the next state are the evaluation of its inputs, whatever stood there before. -/
theorem stepKeepsTheInvariant : Obligations.StepKeepsTheInvariant := by
  unfold Obligations.StepKeepsTheInvariant
  intro s i t h
  rw [step_eq_finish_evaluation] at h
  obtain ⟨o, ho, rfl⟩ := finish_next h
  exact ⟨inv_of_evaluation ho, rfl, rfl⟩

/-- Settles O9: the evaluation of inputs 0 is ENC_R, whose word is 0. -/
theorem powerUpSatisfiesTheInvariant : Obligations.PowerUpSatisfiesTheInvariant := by
  unfold Obligations.PowerUpSatisfiesTheInvariant
  have hpowerUp : ∀ d : Dispatch, Inv (State.powerUp d) := by
    intro d
    refine inv_of_evaluation ?_
    rw [State.powerUp_inp, State.powerUp_out, evaluation_encode (f := .R) rfl,
      encodeOutputs_of_merge (packsFrom_encodeTable .R .zero).merge_encodeTable]
    decide
  exact ⟨hpowerUp, hpowerUp candidateDispatch⟩

end Sys2Proof.Machine
